-- ==== Sys2Proof/Word.lean ====
section
/-! DEFINITION. Word types of the hardware (00_scope.md R6, R7): every value is unsigned. -/

namespace Sys2Proof

/-- A byte: a flash opcode, a device register, one cell of `SYS` or `FLASH` (00 R6). -/
abbrev Byte := BitVec 8

/-- A host register or a system address (00 R6). -/
abbrev Word := BitVec 32

/-- The `RES_HI || RES_LO` pair (00 R6, 10 R22). -/
abbrev DWord := BitVec 64

end Sys2Proof
end

