-- ==== Sys2Proof/Config.lean ====
section
/-! DEFINITION. The parameters of the block (00_scope.md R5, 10_state.md R27), its fixed constants, and the free
values: opaque constants with no body, so that no proof can rest on what they are. -/

namespace Sys2Proof

/-- `interfaceMode` (10 R26). -/
inductive IfMode where
  | single | quad | octal
  deriving DecidableEq, Repr, Inhabited

/-- `transferRate` (10 R26). -/
inductive Rate where
  | normal | double
  deriving DecidableEq, Repr, Inhabited

/-- `addressWidth`: 24 or 32 bits (10 R26). -/
inductive AddrWidth where
  | w24 | w32
  deriving DecidableEq, Repr, Inhabited

/-- A byte for each interface mode: `opFastRead[m]`, `dummyCycles[m]` (10 R27). -/
structure PerMode where
  single : Byte
  quad : Byte
  octal : Byte
  deriving DecidableEq, Repr, Inhabited

/-- The `DeviceProfile`, with every field of the table of 10 R27. Sizes are naturals (their widths are checked by
`DeviceProfile.legal`). -/
structure DeviceProfile where
  flashSizeBytes : Nat
  pageSizeBytes : Nat
  sectorSizeBytes : Nat
  blockSizeBytes : Option Nat
  opWriteEnable : Byte
  opReadStatus : Byte
  opEraseSector : Byte
  opEraseSector4B : Byte
  opEraseChip : Byte
  opPageProgram : Byte
  opPageProgram4B : Byte
  opEnterMode : Byte
  opFastRead : PerMode
  dummyCycles : PerMode
  maxEraseTimeoutMs : Word
  sectorEraseTimeoutMs : Word
  programTimeoutMs : Word
  addressWidthBits : AddrWidth
  opResetEnable : Byte
  opResetExecute : Byte
  multiLineReset : Bool
  opReadConfig : Byte
  opWriteStatus : Byte
  srOrMask : Byte
  crOrMask : Byte
  configuredMode : IfMode
  configuredRate : Rate
  opEnter4Byte : Byte
  hasWrap : Bool
  opWrapDisable : Byte
  wrapDisableData : Byte
  deriving DecidableEq, Repr, Inhabited

/-- A piece of `SYS` that is RAM: the `size` addresses from `base` on (20 R59). -/
structure RamRegion where
  base : Nat
  size : Nat
  deriving DecidableEq, Repr, Inhabited

/-- The platform record: the OPEN parameters of 00 R5, and where RAM lies (20 R59). -/
structure Platform where
  /-- `ADDR_MASK` (20 R55). -/
  addrMask : Word
  /-- `MMAP_BASE` (20 R54). -/
  mmapBase : Word
  /-- `ENFORCE_RANGE` (60 R213). -/
  enforceRange : Bool
  /-- `DEFAULT_TIMEOUT_MS` (40 R131). -/
  defaultTimeoutMs : Word
  /-- Where RAM lies in `SYS` (20 R59). -/
  ramRegions : List RamRegion
  deriving DecidableEq, Repr, Inhabited

/-- The two failure reasons of a transaction (20 R61). -/
inductive FailKind where
  | busError | timeout
  deriving DecidableEq, Repr, Inhabited

/-- The collaborator's answer to one transaction: `Ok` with the bytes received, `Fail(k)` (20 R61), or no answer
ever (70 R254). -/
inductive BusAnswer where
  | ok (rx : List Byte)
  | fail (k : FailKind)
  | never
  deriving DecidableEq, Repr, Inhabited

namespace Config

/-- `POLL_INTERVAL` (00 R5, 30 R98). -/
def pollInterval : BitVec 16 := 0x10
/-- `WEL_MASK` (00 R5, 30 R98). -/
def welMask : Byte := 0x02
/-- `WEL_MATCH` (00 R5, 30 R98). -/
def welMatch : Byte := 0x02
/-- `WIP_MASK` (00 R5, 30 R98). -/
def wipMask : Byte := 0x01
/-- `WIP_MATCH` (00 R5, 30 R98). -/
def wipMatch : Byte := 0x00

/-- FREE: the platform record of a run from reset; every field is OPEN (00 R5, 20 R59; log 3). -/
opaque platform : Platform

/-- FREE: what drives the `profileIn` port in a run from reset (10 R27, R36; log 3). -/
opaque profileIn : DeviceProfile

/-- FREE: the collaborator's answer to the n-th transaction (20 R63; log 8). -/
opaque busAnswer : Nat → BusAnswer

/-- FREE: byte j that the n-th transaction receives, where its answer lists none (20 R63; log 8). -/
opaque rxByte : Nat → Nat → Byte

/-- FREE: the byte at a flash offset that the window shows after n transactions, when the device is not fixed
(20 R63; log 10). -/
opaque windowByte : Nat → Nat → Byte

/-- FREE: the byte of RAM at an address that the host has not stored to (20 R71; log 7). -/
opaque ramByte : Nat → Byte

/-- FREE: the mapped flag after the n-th transaction failed or was not answered (93 U1, U2; log 4). -/
opaque mappedAfterFailure : Nat → Bool

end Config

end Sys2Proof
end

