-- ==== Sys2Proof/Syntax.lean ====
section
/-! DEFINITION. The commands (30_encoding.md R91): one constructor per row of the opcode table, with the operands
that R92 and R93 take from `ARG0..ARG3` at the moment a command is accepted. -/

namespace Sys2Proof

/-- The 14 host commands with their operands (30 R91, R92). -/
inductive Instr where
  /-- `INIT`, code 0x01 (43 R190). -/
  | init
  /-- `WRITE(address, size, buffer)`, code 0x02 (41 R151). -/
  | write (address size buffer : Word)
  /-- `SECTOR_ERASE(startAddr, endAddr)`, code 0x03, an inclusive byte range (43 R191). -/
  | sectorErase (startAddr endAddr : Word)
  /-- `MASS_ERASE(parallelism)`, code 0x04; the operand is ignored (43 R192). -/
  | massErase (parallelism : Word)
  /-- `CHECKSUM(startAddr, size, initVal)`, code 0x05, size in bytes (42 R171). -/
  | checksum (startAddr size initVal : Word)
  /-- `VERIFY(flashAddr, ramBufferAddr, wordCount, misalignment)`, code 0x06; `misalignment` is held unpacked as
  its two nibbles (42 R173, 30 R93). -/
  | verify (flashAddr ramBufferAddr wordCount : Word) (headExtra tailExtra : BitVec 4)
  /-- `RESET`, code 0x10 (40 R121). -/
  | reset
  /-- `WRITE_ENABLE`, code 0x11 (40 R122). -/
  | writeEnable
  /-- `POLL_READY(timeoutMs)`, code 0x12 (40 R123). -/
  | pollReady (timeoutMs : Word)
  /-- `CONFIGURE`, code 0x13 (40 R124). -/
  | configure
  /-- `ERASE_SECTOR(addr)`, code 0x14, a flash offset (40 R125). -/
  | eraseSector (addr : Word)
  /-- `ERASE_CHIP`, code 0x15 (40 R126). -/
  | eraseChip
  /-- `MMAP_ENABLE`, code 0x16 (40 R127). -/
  | mmapEnable
  /-- `MMAP_DISABLE`, code 0x17 (40 R128). -/
  | mmapDisable
  deriving DecidableEq, Repr

/-- What the block latches when `CMD` is written: the written word and the four argument registers (30 R90, 10 R23). -/
structure CommandWords where
  /-- The word written to `CMD`. -/
  cmd : Word
  /-- `ARG0`. -/
  a0 : Word
  /-- `ARG1`. -/
  a1 : Word
  /-- `ARG2`. -/
  a2 : Word
  /-- `ARG3`. -/
  a3 : Word
  deriving DecidableEq, Repr

/-- Why the decoder reads no command (30 R99). -/
inductive DecodeRejection where
  /-- `CMD[7:0]` is none of the 14 codes; the block then raises `IllegalCommand` (60 R216). -/
  | illegalCommand (code : Byte)
  deriving DecidableEq, Repr

end Sys2Proof
end

