-- ==== Sys2Proof/WellFormed.lean ====
section
/-! DEFINITION. Well-formedness. Every term of `Instr` is well formed, because its operands have the widths of the
encoding (30_encoding.md R92, R93) and every value of them is admitted. What the spec checks are the two parameter
records: a legal `DeviceProfile` (10_state.md R27) and a legal platform record (20_memory.md R54). -/

namespace Sys2Proof

/-- A size field: positive and 32 bits wide (10 R27). -/
def sizeLegal (n : Nat) : Bool := decide (0 < n) && decide (n < 2 ^ 32)

/-- `flashSizeBytes` is in `1 .. 2^32` (10 R27). -/
def DeviceProfile.flashSizeLegal (p : DeviceProfile) : Bool :=
  decide (0 < p.flashSizeBytes) && decide (p.flashSizeBytes ≤ 2 ^ 32)

/-- `blockSizeBytes` is absent or a legal size (10 R27). -/
def DeviceProfile.blockSizeLegal (p : DeviceProfile) : Bool :=
  match p.blockSizeBytes with
  | none => true
  | some n => sizeLegal n

/-- `configuredMode = single` implies `addressWidthBits = 24` (10 R27). -/
def DeviceProfile.widthLegal (p : DeviceProfile) : Bool :=
  decide (p.configuredMode = .single → p.addressWidthBits = .w24)

/-- A legal profile (10 R27); the model refuses any other. -/
def DeviceProfile.legal (p : DeviceProfile) : Bool :=
  p.flashSizeLegal && sizeLegal p.pageSizeBytes && sizeLegal p.sectorSizeBytes && p.blockSizeLegal && p.widthLegal

/-- RAM lies inside `SYS`, whose addresses are 32 bits wide (20 R50, R59). -/
def Platform.ramLegal (q : Platform) : Bool := q.ramRegions.all fun r => decide (r.base + r.size ≤ 2 ^ 32)

/-- A legal platform record for a profile: the window base is a multiple of `ADDR_MASK + 1`, the window ends at or
below `2^32` (20 R54), and so does RAM (R50). -/
def Platform.legal (q : Platform) (p : DeviceProfile) : Bool :=
  decide (q.mmapBase.toNat % (q.addrMask.toNat + 1) = 0) &&
    decide (q.mmapBase.toNat + p.flashSizeBytes ≤ 2 ^ 32) && q.ramLegal

end Sys2Proof
end

