-- ==== Sys2Proof/Decode.lean ====
section
/-! DEFINITION. Decoding and encoding of commands (30_encoding.md R90 to R93, R99). A command is the code `CMD[7:0]`
with `ARG0..ARG3`; the decoder is total and names what it rejects. -/

namespace Sys2Proof

/-- `CMD[7:0]` (30 R90). -/
def commandCode (w : CommandWords) : Byte := w.cmd.setWidth 8

/-- `headExtra = misalignment[3:0]` (30 R93). -/
def headExtraOf (misalignment : Word) : BitVec 4 := misalignment.extractLsb' 0 4

/-- `tailExtra = misalignment[19:16]` (30 R93). -/
def tailExtraOf (misalignment : Word) : BitVec 4 := misalignment.extractLsb' 16 4

/-- A misalignment word with the two nibbles given and every ignored bit 0 (30 R93). -/
def packMisalignment (headExtra tailExtra : BitVec 4) : Word :=
  (0 : BitVec 12) ++ tailExtra ++ (0 : BitVec 12) ++ headExtra

/-- The lookup of 30 R91 with the operand assembly of R92 and R93. -/
def decode (w : CommandWords) : Except DecodeRejection Instr :=
  match (commandCode w).toNat with
  | 0x01 => .ok .init
  | 0x02 => .ok (.write w.a0 w.a1 w.a2)
  | 0x03 => .ok (.sectorErase w.a0 w.a1)
  | 0x04 => .ok (.massErase w.a0)
  | 0x05 => .ok (.checksum w.a0 w.a1 w.a2)
  | 0x06 => .ok (.verify w.a0 w.a1 w.a2 (headExtraOf w.a3) (tailExtraOf w.a3))
  | 0x10 => .ok .reset
  | 0x11 => .ok .writeEnable
  | 0x12 => .ok (.pollReady w.a0)
  | 0x13 => .ok .configure
  | 0x14 => .ok (.eraseSector w.a0)
  | 0x15 => .ok .eraseChip
  | 0x16 => .ok .mmapEnable
  | 0x17 => .ok .mmapDisable
  | _ => .error (.illegalCommand (commandCode w))

/-- The command code of a command (30 R91). -/
def codeOf : Instr → Byte
  | .init => 0x01
  | .write _ _ _ => 0x02
  | .sectorErase _ _ => 0x03
  | .massErase _ => 0x04
  | .checksum _ _ _ => 0x05
  | .verify _ _ _ _ _ => 0x06
  | .reset => 0x10
  | .writeEnable => 0x11
  | .pollReady _ => 0x12
  | .configure => 0x13
  | .eraseSector _ => 0x14
  | .eraseChip => 0x15
  | .mmapEnable => 0x16
  | .mmapDisable => 0x17

/-- The words of a command: its code in `CMD[7:0]`, its operands in `ARG0..ARG3`, every bit the command ignores 0
(30 R90 to R93). -/
def encode (i : Instr) : CommandWords :=
  let cmd : Word := (codeOf i).setWidth 32
  match i with
  | .write a n b => ⟨cmd, a, n, b, 0⟩
  | .sectorErase a b => ⟨cmd, a, b, 0, 0⟩
  | .massErase p => ⟨cmd, p, 0, 0, 0⟩
  | .checksum a n v => ⟨cmd, a, n, v, 0⟩
  | .verify f r c h t => ⟨cmd, f, r, c, packMisalignment h t⟩
  | .pollReady t => ⟨cmd, t, 0, 0, 0⟩
  | .eraseSector a => ⟨cmd, a, 0, 0, 0⟩
  | .init | .reset | .writeEnable | .configure | .eraseChip | .mmapEnable | .mmapDisable => ⟨cmd, 0, 0, 0, 0⟩

/-- The name of a command in the opcode table (30 R91). -/
def mnemonicOf : Instr → String
  | .init => "INIT"
  | .write _ _ _ => "WRITE"
  | .sectorErase _ _ => "SECTOR_ERASE"
  | .massErase _ => "MASS_ERASE"
  | .checksum _ _ _ => "CHECKSUM"
  | .verify _ _ _ _ _ => "VERIFY"
  | .reset => "RESET"
  | .writeEnable => "WRITE_ENABLE"
  | .pollReady _ => "POLL_READY"
  | .configure => "CONFIGURE"
  | .eraseSector _ => "ERASE_SECTOR"
  | .eraseChip => "ERASE_CHIP"
  | .mmapEnable => "MMAP_ENABLE"
  | .mmapDisable => "MMAP_DISABLE"

/-- The source's own spelling, a synonym of the mnemonic (30 R91, R100). -/
def sourceNameOf : Instr → String
  | .init => "Init"
  | .write _ _ _ => "Write"
  | .sectorErase _ _ => "SectorErase"
  | .massErase _ => "MassErase"
  | .checksum _ _ _ => "CheckSum"
  | .verify _ _ _ _ _ => "Verify"
  | .reset => "Reset"
  | .writeEnable => "WriteEnable"
  | .pollReady _ => "PollUntilReady"
  | .configure => "Configure"
  | .eraseSector _ => "EraseSector"
  | .eraseChip => "EraseChip"
  | .mmapEnable => "EnableMemoryMappedMode"
  | .mmapDisable => "DisableMemoryMappedMode"

/-- A command as one number: `CMD` in bits 31..0, then `ARG0..ARG3`, 32 bits each; bits at and above `nbits` are 0.
This is the numbering of spec/opcode_table.json carried on over the operand words. -/
def commandWordsOf (nbits w : Nat) : CommandWords :=
  let v := w % 2 ^ nbits
  { cmd := BitVec.ofNat 32 v
    a0 := BitVec.ofNat 32 (v / 2 ^ 32)
    a1 := BitVec.ofNat 32 (v / 2 ^ 64)
    a2 := BitVec.ofNat 32 (v / 2 ^ 96)
    a3 := BitVec.ofNat 32 (v / 2 ^ 128) }

/-- The command read from the bits `w` of a table row. -/
def decodeTableWord (nbits w : Nat) : Option Instr :=
  match decode (commandWordsOf nbits w) with
  | .ok i => some i
  | .error _ => none

end Sys2Proof
end

