-- ==== Sys2Proof/Machine/State.lean ====
section
/-! DEFINITION. The state of the machine (10_state.md, 20_memory.md section 7): the block, its parameters and ports,
the other agents it observes, and the model's own record of outputs. Plain data. -/

namespace Sys2Proof.Machine

/-- The FSM register `chipState` (10 R25). Code 7 never occurs. -/
inductive ChipState where
  | uninitialized | reset | configured | idle | erasing | programming | memoryMapped
  deriving DecidableEq, Repr

/-- The error kind in `STATUS.ERR` (60 R210). Code 7 is never written. -/
inductive ErrKind where
  | noError | busError | timeout | invalidRange | modeConflict | notInitialized | illegalCommand
  deriving DecidableEq, Repr

/-- `InterfaceState` (10 R26). -/
structure InterfaceState where
  mode : IfMode
  rate : Rate
  addrw : AddrWidth
  deriving DecidableEq, Repr

/-- `EraseRange`: the range as given and the iteration variable (10 R28); naturals, so nothing wraps. -/
structure EraseRange where
  startAddr : Nat
  endAddr : Nat
  current : Nat
  deriving DecidableEq, Repr

/-- `WriteCursor` (10 R29, 41 R155). -/
structure WriteCursor where
  currentAddress : Nat
  remainingBytes : Nat
  bufferOffset : Nat
  deriving DecidableEq, Repr

/-- `ChecksumAccumulator` (10 R30). -/
structure ChecksumAccumulator where
  sum : Word
  headSkip : Nat
  tailSkip : Nat
  deriving DecidableEq, Repr

/-- How many lines a phase uses, or that the command has no such phase (30 R95). -/
inductive Lines where
  | absent | l1 | l4 | l8
  deriving DecidableEq, Repr

/-- `addressMode`: lines and width of the address phase (30 R95). -/
structure AddrMode where
  lines : Lines
  width : AddrWidth
  deriving DecidableEq, Repr

/-- The record of a `SendCommand` (30 R95). -/
structure SendCmd where
  opcode : Byte
  instrLines : Lines
  rate : Rate
  addressMode : AddrMode
  dataMode : Lines
  address : Word
  dummyCycles : Byte
  deriving DecidableEq, Repr

/-- The record of a `PollRegister` (30 R95, R98). -/
structure PollReq where
  opcode : Byte
  mask : Byte
  matchValue : Byte
  intervalCycles : BitVec 16
  timeoutMs : Word
  instrLines : Lines
  rate : Rate
  dataLines : Lines
  deriving DecidableEq, Repr

/-- The record of an `EnableMemoryMap` (30 R95). -/
structure MapReq where
  opcode : Byte
  dummyCycles : Byte
  instrLines : Lines
  rate : Rate
  addressWidth : AddrWidth
  deriving DecidableEq, Repr

/-- The seven bus transactions (20 R60). -/
inductive Txn where
  | busInit
  | sendCommand (c : SendCmd)
  | transmit (bytes : List Byte)
  | receive (len : Nat)
  | pollRegister (p : PollReq)
  | enableMemoryMap (m : MapReq)
  | disableMemoryMap
  deriving DecidableEq, Repr

/-- One action of the block on the outside: a transaction, or a `MemRead(addr, n)` (20 R57, R65). -/
inductive Event where
  | bus (t : Txn)
  | memRead (addr n : Nat)
  deriving DecidableEq, Repr

/-- Which collaborator answers the transactions. -/
inductive Collaborator where
  /-- The free oracle (20 R63). -/
  | oracle
  /-- The "Ok oracle": every transaction answers `Ok`, everything else free (40 R122, 43 R190, 70 R256). -/
  | okOracle
  /-- The reference flash device (20 R72 to R79). -/
  | reference
  deriving DecidableEq, Repr

/-- The reference device's pending data phase (20 R72). -/
inductive Pending where
  | absent
  | program (a : Nat)
  | writeSR
  | readSR
  | readCR
  | other
  deriving DecidableEq, Repr

/-- A memory: (address, byte) pairs, addresses strictly rising, no entry equal to what an unlisted address reads as. -/
abbrev Memory := List Host.Cell

/-- The reference device (20 R72); its mapped flag is the collaborator's, `State.mapped`. -/
structure RefDevice where
  /-- The flash array by offset; an unlisted offset is erased (log 5). -/
  flash : Memory
  /-- `SR`: bit 0 WIP, bit 1 WEL (30 R101). -/
  sr : Byte
  /-- `CR`. -/
  cr : Byte
  pend : Pending
  deriving DecidableEq, Repr

/-- A move of the host (20 R56, R69 to R71; 30 R100; 70 R240, R244). -/
inductive HostMove where
  /-- A write of `v` to the register port, `width` bytes at `offset` (20 R56). -/
  | write (offset width : Nat) (v : Word)
  /-- A read of the register port (20 R56). -/
  | read (offset width : Nat)
  /-- `WAIT`: read `STATUS` until `DONE = 1` (30 R100); one read each step. -/
  | waitDone
  /-- A store of one byte into `SYS` (20 R71). -/
  | store (addr : Word) (b : Byte)
  /-- The host's own load of one byte of `SYS` (70 R244). -/
  | load (addr : Word)
  /-- A change of the `profileIn` port (20 R69). -/
  | driveProfile (p : DeviceProfile)
  /-- The block's reset input (70 R240, R241). -/
  | hardwareReset
  deriving DecidableEq, Repr

/-- Why the machine stops where the spec gives an access no value. -/
inductive Fault where
  /-- A read of a `SYS` address that no region backs (20 R71, 93 U15); raised by `memByte`. Safe. -/
  | unbackedRead (addr : Nat)
  /-- A host store to a `SYS` address that no region backs (20 R59, R71; log 7); raised by `hostStore`. Safe. -/
  | unbackedStore (addr : Nat)
  /-- A read of the flash window while the bus is in command mode (20 R54, 93 U15); raised by `memByte`. Safe. -/
  | windowNotMapped (addr : Nat)
  /-- A command accepted in `Erasing` or `Programming`, which 10 R25 says never happens; raised by `runCommand` only
  in states no run reaches. Safe. -/
  | acceptedInTransientState
  deriving DecidableEq, Repr

/-- Why the model gives a move no meaning. -/
inductive Refusal where
  /-- An instruction without a meaning. No arm of `exec` answers it. Safe. -/
  | notModelled (mnemonic : String)
  /-- An illegal `DeviceProfile` on `profileIn`: "the model refuses an illegal profile" (10 R27, 43 R190); raised by
  `INIT` and by the host's move that drives the port. Safe. -/
  | illegalProfile
  /-- A register access of another width or offset (20 R56, 93 U17); raised by the register port. Safe. -/
  | hostAccess (offset width : Nat)
  /-- A host store into a buffer that the running command reads (20 R70 (a)). Safe. -/
  | storeIntoBusyBuffer (addr : Nat)
  /-- A host store into the flash window, for which the spec gives no effect (20 R54, R57). Safe. -/
  | storeIntoWindow (addr : Nat)
  deriving DecidableEq, Repr

/-- The machine's state. INVENTORY.md lists the rule of every field. -/
structure State where
  /-- Last accepted code; `CMD` reads it zero-extended (10 R20, R23). -/
  cmd : Byte
  /-- `ARG0` (10 R21). -/
  arg0 : Word
  /-- `ARG1` (10 R21). -/
  arg1 : Word
  /-- `ARG2` (10 R21). -/
  arg2 : Word
  /-- `ARG3` (10 R21). -/
  arg3 : Word
  /-- `RES_LO` (10 R22). -/
  resLo : Word
  /-- `RES_HI` (10 R22). -/
  resHi : Word
  /-- `STATUS.BUSY` (10 R24). -/
  busy : Bool
  /-- `STATUS.DONE` (10 R24). -/
  done : Bool
  /-- `STATUS.MISMATCH` (10 R24). -/
  mismatch : Bool
  /-- `STATUS.ERR` (10 R24, 60 R210). -/
  err : ErrKind
  /-- `chipState` (10 R25). -/
  chipState : ChipState
  /-- `InterfaceState` (10 R26). -/
  iface : InterfaceState
  /-- The latched `DeviceProfile`, `P` (10 R27). -/
  profile : DeviceProfile
  /-- `EraseRange`, while `SECTOR_ERASE` runs (10 R28). -/
  eraseRange : Option EraseRange
  /-- `WriteCursor`, while `WRITE` runs (10 R29). -/
  writeCursor : Option WriteCursor
  /-- `ChecksumAccumulator`, while `CHECKSUM` or `VERIFY` runs (10 R30). -/
  checksumAcc : Option ChecksumAccumulator
  /-- The platform record (00 R5), changed by nothing. -/
  platform : Platform
  /-- The `profileIn` port (10 R27), changed by no command. -/
  profileIn : DeviceProfile
  /-- The collaborator's mapped flag (10 R33 (b)). -/
  mapped : Bool
  /-- The reference device (20 R72), used when `collab` is `reference`. -/
  dev : RefDevice
  /-- The bytes that the host has stored into RAM (20 R71). -/
  ram : Memory
  /-- The model's own: which collaborator answers. -/
  collab : Collaborator
  /-- The model's own: answers fixed in advance by transaction index (20 R79). -/
  forced : List (Nat × BusAnswer)
  /-- The model's own: how many transactions were issued. -/
  txCount : Nat
  /-- The model's own: what the block did on the outside, newest first. -/
  trace : List Event
  /-- The model's own: the host's moves to come. -/
  moves : List HostMove
  /-- The model's own: the value the host's last read returned. -/
  hostData : Word
  deriving DecidableEq, Repr

/-- `InterfaceState` after hardware reset and after `Reset()` (10 R34, 40 R121). -/
def resetInterface : InterfaceState := ⟨.single, .normal, .w24⟩

/-- `P` after hardware reset: the spec leaves it unspecified and nothing reads it before the first `INIT`
(10 R27, R34). DESIGN CHOICE, log 2: all zero. -/
def blankProfile : DeviceProfile where
  flashSizeBytes := 0
  pageSizeBytes := 0
  sectorSizeBytes := 0
  blockSizeBytes := none
  opWriteEnable := 0
  opReadStatus := 0
  opEraseSector := 0
  opEraseSector4B := 0
  opEraseChip := 0
  opPageProgram := 0
  opPageProgram4B := 0
  opEnterMode := 0
  opFastRead := ⟨0, 0, 0⟩
  dummyCycles := ⟨0, 0, 0⟩
  maxEraseTimeoutMs := 0
  sectorEraseTimeoutMs := 0
  programTimeoutMs := 0
  addressWidthBits := .w24
  opResetEnable := 0
  opResetExecute := 0
  multiLineReset := false
  opReadConfig := 0
  opWriteStatus := 0
  srOrMask := 0
  crOrMask := 0
  configuredMode := .single
  configuredRate := .normal
  opEnter4Byte := 0
  hasWrap := false
  opWrapDisable := 0
  wrapDisableData := 0

/-- The reference device before its first transaction (20 R72). -/
def initialDevice : RefDevice := ⟨[], 0, 0, .absent⟩

/-- The machine right after hardware reset (10 R34, 70 R240). The parameters are free constants (log 3). -/
def State.reset : State where
  cmd := 0
  arg0 := 0
  arg1 := 0
  arg2 := 0
  arg3 := 0
  resLo := 0
  resHi := 0
  busy := false
  done := false
  mismatch := false
  err := .noError
  chipState := .uninitialized
  iface := resetInterface
  profile := blankProfile
  eraseRange := none
  writeCursor := none
  checksumAcc := none
  platform := Config.platform
  profileIn := Config.profileIn
  mapped := false
  dev := initialDevice
  ram := []
  collab := .oracle
  forced := []
  txCount := 0
  trace := []
  moves := []
  hostData := 0

end Sys2Proof.Machine
end

