-- ==== Sys2Proof/Machine/Flags.lean ====
section
/-! DEFINITION. The numeric codes of states, modes and error kinds and the `STATUS` word (10_state.md R24, R25;
60_exceptions.md R210). The fields are stored once, in `State`; the register is computed from them. -/

namespace Sys2Proof.Machine

/-- The code of an error kind (60 R210). -/
def errCode : ErrKind → BitVec 3
  | .noError => 0
  | .busError => 1
  | .timeout => 2
  | .invalidRange => 3
  | .modeConflict => 4
  | .notInitialized => 5
  | .illegalCommand => 6

/-- The code of an FSM state (10 R25). -/
def chipCode : ChipState → BitVec 3
  | .uninitialized => 0
  | .reset => 1
  | .configured => 2
  | .idle => 3
  | .erasing => 4
  | .programming => 5
  | .memoryMapped => 6

/-- `IFMODE` (10 R24). -/
def modeCode : IfMode → BitVec 2
  | .single => 0
  | .quad => 1
  | .octal => 2

/-- `RATE` (10 R24). -/
def rateCode : Rate → BitVec 1
  | .normal => 0
  | .double => 1

/-- `ADDRW` (10 R24). -/
def widthCode : AddrWidth → BitVec 1
  | .w24 => 0
  | .w32 => 1

/-- The `STATUS` register as the host reads it; reserved bits read 0 (10 R24). -/
def statusWord (s : State) : Word :=
  (0 : BitVec 16) ++ widthCode s.iface.addrw ++ rateCode s.iface.rate ++ modeCode s.iface.mode ++ (0 : BitVec 1) ++
    chipCode s.chipState ++ (0 : BitVec 1) ++ errCode s.err ++ (0 : BitVec 1) ++ BitVec.ofBool s.mismatch ++
    BitVec.ofBool s.done ++ BitVec.ofBool s.busy

/-- The 64-bit result `RES_HI || RES_LO` (10 R22). -/
def resultWord (s : State) : DWord := s.resHi ++ s.resLo

/-- The five resting states of 10 R25. -/
def isResting : ChipState → Bool
  | .erasing | .programming => false
  | .uninitialized | .reset | .configured | .idle | .memoryMapped => true

end Sys2Proof.Machine
end

