-- ==== Sys2Proof/Machine/Operands.lean ====
section
/-! DEFINITION. Operand forms: the address mask (20_memory.md R55), line selection and record codes
(30_encoding.md R95), opcode variants (R96), the address field (R97) and the transaction records they build. -/

namespace Sys2Proof.Machine

/-- `toOffset(a) = a AND ADDR_MASK` (20 R55). -/
def toOffset (s : State) (a : Word) : Nat := (a &&& s.platform.addrMask).toNat

/-- `L(lines(mode))` (10 R26, 30 R95). -/
def linesOf : IfMode → Lines
  | .single => .l1
  | .quad => .l4
  | .octal => .l8

/-- The line code of the current interface mode, the `L` of the pseudocode (40, introduction). -/
def currentLines (s : State) : Lines := linesOf s.iface.mode

/-- How many address bits go out (10 R26). -/
def widthBits : AddrWidth → Nat
  | .w24 => 24
  | .w32 => 32

/-- The code of a line selection (30 R95). -/
def linesCode : Lines → BitVec 2
  | .absent => 0
  | .l1 => 1
  | .l4 => 2
  | .l8 => 3

/-- The 3-bit `addressMode`: lines in bits 2:1, width in bit 0 (30 R95). -/
def addrModeCode (m : AddrMode) : BitVec 3 := linesCode m.lines ++ widthCode m.width

/-- `addressMode = None`: no lines, width 0 (30 R95). -/
def noAddress : AddrMode := ⟨.absent, .w24⟩

/-- A profile byte indexed by interface mode (10 R27). -/
def perMode (p : PerMode) : IfMode → Byte
  | .single => p.single
  | .quad => p.quad
  | .octal => p.octal

/-- The sector-erase opcode variant (30 R96). -/
def eraseOpcode (s : State) : Byte :=
  match s.iface.addrw with
  | .w24 => s.profile.opEraseSector
  | .w32 => s.profile.opEraseSector4B

/-- The page-program opcode variant (30 R96). -/
def programOpcode (s : State) : Byte :=
  match s.iface.addrw with
  | .w24 => s.profile.opPageProgram
  | .w32 => s.profile.opPageProgram4B

/-- `offset mod 2^IF.addrw`, zero-extended (30 R97). -/
def addressField (s : State) (offset : Nat) : Word := BitVec.ofNat 32 (offset % 2 ^ widthBits s.iface.addrw)

/-- `SendCommand(op, None, data, 0)` on the current lines: a command without an address phase. -/
def plainCommand (s : State) (op : Byte) (data : Lines) : Txn :=
  .sendCommand ⟨op, currentLines s, s.iface.rate, noAddress, data, 0, 0⟩

/-- `SendCommand(op, (L, IF.addrw), data, offset mod 2^IF.addrw)`: a command with an address phase (30 R97). -/
def addressCommand (s : State) (op : Byte) (data : Lines) (offset : Nat) : Txn :=
  .sendCommand ⟨op, currentLines s, s.iface.rate, ⟨currentLines s, s.iface.addrw⟩, data, addressField s offset, 0⟩

/-- The command of one reset round: the round's lines, normal rate (40 R121). -/
def resetCommand (op : Byte) (round : Lines) : Txn :=
  .sendCommand ⟨op, round, .normal, noAddress, .absent, 0, 0⟩

/-- A status poll with the current lines (30 R98). -/
def statusPoll (s : State) (mask matchValue : Byte) (timeoutMs : Word) : Txn :=
  .pollRegister ⟨s.profile.opReadStatus, mask, matchValue, Config.pollInterval, timeoutMs, currentLines s,
    s.iface.rate, currentLines s⟩

/-- The write-enable-latch poll (30 R98, 40 R131). -/
def welPoll (s : State) : Txn := statusPoll s Config.welMask Config.welMatch s.platform.defaultTimeoutMs

/-- The ready poll with its operation's timeout (30 R98, 40 R131). -/
def readyPoll (s : State) (timeoutMs : Word) : Txn := statusPoll s Config.wipMask Config.wipMatch timeoutMs

/-- `EnableMemoryMap` with the fast-read variant of the current mode (30 R96, 40 R127). -/
def mapCommand (s : State) : Txn :=
  .enableMemoryMap ⟨perMode s.profile.opFastRead s.iface.mode, perMode s.profile.dummyCycles s.iface.mode,
    currentLines s, s.iface.rate, s.iface.addrw⟩

/-- The fields of a `SendCommand` record as the numbers of 30 R95, in the order of its table. -/
def sendCommandCodes (c : SendCmd) : Byte × BitVec 2 × BitVec 1 × BitVec 3 × BitVec 2 × Word × Byte :=
  (c.opcode, linesCode c.instrLines, rateCode c.rate, addrModeCode c.addressMode, linesCode c.dataMode, c.address,
    c.dummyCycles)

/-- The fields of a `PollRegister` record as the numbers of 30 R95: opcode, mask, match, interval, timeout,
instruction lines, rate, data lines. -/
def pollRegisterCodes (p : PollReq) :
    Byte × Byte × Byte × BitVec 16 × Word × BitVec 2 × BitVec 1 × BitVec 2 :=
  (p.opcode, p.mask, p.matchValue, p.intervalCycles, p.timeoutMs, linesCode p.instrLines, rateCode p.rate,
    linesCode p.dataLines)

/-- The fields of an `EnableMemoryMap` record as the numbers of 30 R95: opcode, dummy cycles, instruction lines,
rate, address width. -/
def mapCommandCodes (m : MapReq) : Byte × Byte × BitVec 2 × BitVec 1 × BitVec 1 :=
  (m.opcode, m.dummyCycles, linesCode m.instrLines, rateCode m.rate, widthCode m.addressWidth)

end Sys2Proof.Machine
end

