-- ==== Sys2Proof/Machine/Memory.lean ====
section
/-! DEFINITION. Memories as sorted lists of (address, byte) pairs: reading, writing and erasing, and their canonical
form. RAM has a free byte at an unlisted address (20_memory.md R71; log 7); the flash array reads erased there (log 5). -/

namespace Sys2Proof.Machine

/-- The byte listed at an address. -/
def memFind : Memory → Nat → Option Byte
  | [], _ => none
  | (k, v) :: m, a => if a = k then some v else memFind m a

/-- List byte `b` at address `a`, in address order. -/
def memPut : Memory → Nat → Byte → Memory
  | [], a, b => [(a, b)]
  | (k, v) :: m, a, b =>
    if a < k then (a, b) :: (k, v) :: m
    else if a = k then (a, b) :: m
    else (k, v) :: memPut m a b

/-- Unlist the `n` addresses from `lo` on. -/
def memClear (m : Memory) (lo n : Nat) : Memory :=
  m.filter fun c => !(decide (lo ≤ c.1) && decide (c.1 < lo + n))

/-- The canonical form: addresses strictly rising, no entry equal to what an unlisted address reads as. -/
abbrev memWf (unlisted : Option Byte) (m : Memory) : Prop :=
  m.Pairwise (fun c d => c.1 < d.1) ∧ ∀ c ∈ m, some c.2 ≠ unlisted

/-- What the canonical form excludes from the list of stored bytes of `SYS`: nothing, because the byte of RAM at an
unlisted address is free and no stored byte is known to equal it (20 R71; log 7). -/
def ramUnlisted : Option Byte := none

/-- The byte of RAM at an address: the byte last stored there by the host (20 R71), or, where the host has stored none,
a free byte (log 7). -/
def ramGet (m : Memory) (a : Nat) : Byte := (memFind m a).getD (Config.ramByte a)

/-- An erased flash byte: what an unlisted offset of the array reads as (20 R74; log 5). -/
def erasedByte : Byte := 0xFF

/-- The byte of the flash array at an offset. -/
def flashGet (m : Memory) (o : Nat) : Byte := (memFind m o).getD erasedByte

/-- Write a byte of the flash array, keeping the canonical form. -/
def flashPut (m : Memory) (o : Nat) (b : Byte) : Memory :=
  if b = erasedByte then memClear m o 1 else memPut m o b

end Sys2Proof.Machine
end

