-- ==== Sys2Proof/Machine/RefDevice.lean ====
section
/-! DEFINITION. The reference flash device (20_memory.md R72 to R78), the spec's own, used when the collaborator is
`reference`. It finishes every program and erase instantly. -/

namespace Sys2Proof.Machine

/-- The latch bit WEL, `SR[1]` (20 R72, 30 R101). -/
def welSet (d : RefDevice) : Bool := d.sr.getLsbD 1

/-- `SR[1] <- 1`. -/
def setWel (d : RefDevice) : RefDevice := { d with sr := d.sr ||| 0x02 }

/-- `SR[1] <- 0`. -/
def clearWel (d : RefDevice) : RefDevice := { d with sr := d.sr &&& 0xFD }

/-- The erase of the sector that contains `a` (20 R74). -/
def deviceEraseSector (p : DeviceProfile) (a : Nat) (d : RefDevice) : RefDevice :=
  if welSet d then
    clearWel { d with flash := memClear d.flash (a - a % p.sectorSizeBytes) p.sectorSizeBytes }
  else d

/-- The chip erase (20 R74). -/
def deviceEraseChip (d : RefDevice) : RefDevice :=
  if welSet d then clearWel { d with flash := [] } else d

/-- `flash[o] <- flash[o] AND b`, for an offset inside the chip (20 R72, R75). -/
def deviceAnd (p : DeviceProfile) (m : Memory) (o : Nat) (b : Byte) : Memory :=
  if o < p.flashSizeBytes then flashPut m o (flashGet m o &&& b) else m

/-- The bytes of one page program, from index `i` on, wrapping inside the page of `a` (20 R75). -/
def deviceProgram (p : DeviceProfile) (a : Nat) : Nat → List Byte → Memory → Memory
  | _, [], m => m
  | i, b :: bs, m =>
    deviceProgram p a (i + 1) bs
      (deviceAnd p m (a - a % p.pageSizeBytes + (a + i) % p.pageSizeBytes) b)

/-- The reference `SendCommand` in command mode: the first row of 20 R74 whose opcode it is (log 11). -/
def deviceCommand (p : DeviceProfile) (c : SendCmd) (d : RefDevice) : RefDevice :=
  let a := c.address.toNat % p.flashSizeBytes
  if c.opcode = p.opWriteEnable then setWel d
  else if c.opcode = p.opEraseSector ∨ c.opcode = p.opEraseSector4B then deviceEraseSector p a d
  else if c.opcode = p.opEraseChip then deviceEraseChip d
  else if c.opcode = p.opPageProgram ∨ c.opcode = p.opPageProgram4B then { d with pend := .program a }
  else if c.opcode = p.opWriteStatus then { d with pend := .writeSR }
  else if c.opcode = p.opReadStatus then { d with pend := .readSR }
  else if c.opcode = p.opReadConfig then { d with pend := .readCR }
  else if c.opcode = p.opResetExecute then { d with sr := d.sr &&& 0xFC, pend := .absent }
  else if c.opcode = p.opResetEnable ∨ c.opcode = p.opEnter4Byte ∨ c.opcode = p.opEnterMode then d
  else if c.opcode = p.opWrapDisable then { d with pend := .other }
  else d

/-- The reference `Transmit` (20 R75). -/
def deviceTransmit (p : DeviceProfile) (bytes : List Byte) (d : RefDevice) : RefDevice :=
  match d.pend, bytes with
  | .program a, bs =>
    if welSet d then clearWel { d with flash := deviceProgram p a 0 bs d.flash, pend := .absent }
    else { d with pend := .absent }
  | .writeSR, b0 :: b1 :: _ =>
    if welSet d then { d with sr := (d.sr &&& 0x01) ||| (b0 &&& 0xFC), cr := b1, pend := .absent }
    else { d with pend := .absent }
  | _, _ => { d with pend := .absent }

/-- The bytes of the reference `Receive` (20 R76). -/
def deviceReceive (len : Nat) (d : RefDevice) : List Byte :=
  match d.pend with
  | .readSR => List.replicate len d.sr
  | .readCR => List.replicate len d.cr
  | _ => List.replicate len 0

/-- What the reference device does with a transaction: its answer, the mapped flag and its state afterwards
(20 R73 to R76). -/
def deviceStep (p : DeviceProfile) (t : Txn) (mapped : Bool) (d : RefDevice) : BusAnswer × Bool × RefDevice :=
  match t with
  | .busInit => (.ok [], false, d)
  | .disableMemoryMap => (.ok [], false, d)
  | .enableMemoryMap _ => (.ok [], true, d)
  | .sendCommand c => if mapped then (.fail .busError, mapped, d) else (.ok [], mapped, deviceCommand p c d)
  | .transmit bytes => (.ok [], mapped, deviceTransmit p bytes d)
  | .receive len => (.ok (deviceReceive len d), mapped, { d with pend := .absent })
  | .pollRegister q =>
    if mapped then (.fail .busError, mapped, d)
    else if d.sr &&& q.mask = q.matchValue then (.ok [], mapped, d)
    else (.fail .timeout, mapped, d)

end Sys2Proof.Machine
end

