-- ==== Sys2Proof/Machine/Ops.lean ====
section
/-! DEFINITION. The named operations that every meaning is built from: register updates, the abort entry `raise`
(60_exceptions.md R218) and the normal end `return` (00_scope.md R9), a bus transaction (20_memory.md R60 to R64) and
a `MemRead` (R51 to R54, R71). -/

namespace Sys2Proof.Machine

/-! ### Register updates -/

/-- `chipState <- c` (10 R25). -/
def setChip (c : ChipState) (s : State) : State := { s with chipState := c }

/-- `InterfaceState <- f` (10 R26). -/
def setIface (f : InterfaceState) (s : State) : State := { s with iface := f }

/-- `IF.addrw <- w` (40 R124). -/
def setAddrWidth (w : AddrWidth) (s : State) : State := { s with iface := { s.iface with addrw := w } }

/-- `IF.mode <- m; IF.rate <- r` (40 R124). -/
def setModeRate (m : IfMode) (r : Rate) (s : State) : State := { s with iface := { s.iface with mode := m, rate := r } }

/-- `P <- profileIn` (10 R27, 43 R190). -/
def latchProfile (s : State) : State := { s with profile := s.profileIn }

/-- Set the `EraseRange` (10 R28). -/
def setEraseRange (e : EraseRange) (s : State) : State := { s with eraseRange := some e }

/-- Set the `WriteCursor` (10 R29). -/
def setWriteCursor (w : WriteCursor) (s : State) : State := { s with writeCursor := some w }

/-- Set the `ChecksumAccumulator` (10 R30). -/
def setChecksumAcc (c : ChecksumAccumulator) (s : State) : State := { s with checksumAcc := some c }

/-- `MISMATCH <- 1` (42 R173). -/
def setMismatch (s : State) : State := { s with mismatch := true }

/-- Record a `MemRead(addr, n)` (20 R65). -/
def logRead (addr n : Nat) (s : State) : State := { s with trace := .memRead addr n :: s.trace }

/-- Record that a transaction was issued (20 R65). -/
def logTxn (t : Txn) (s : State) : State := { s with trace := .bus t :: s.trace, txCount := s.txCount + 1 }

/-- What a transaction leaves in the collaborator: the mapped flag and the device (20 R62, R66). -/
def setBus (mapped : Bool) (d : RefDevice) (s : State) : State := { s with mapped := mapped, dev := d }

/-! ### Acceptance and the two ends of a command -/

/-- Acceptance of a command (10 R23): the code is latched, `BUSY` set, `DONE`, `MISMATCH`, `ERR` and `RES` cleared. -/
def accept (code : Byte) (s : State) : State :=
  { s with cmd := code, busy := true, done := false, mismatch := false, err := .noError, resLo := 0, resHi := 0 }

/-- `return v`, the normal end of a command (00 R9): `RES <- v`, `ERR <- 0`, `BUSY <- 0`, `DONE <- 1`; the transient
values end with the command (10 R28 to R30; log 22). -/
def complete (v : DWord) (s : State) : State :=
  { s with
    resLo := v.setWidth 32
    resHi := v.extractLsb' 32 32
    err := .noError
    busy := false
    done := true
    eraseRange := none
    writeCursor := none
    checksumAcc := none }

/-- The two kinds that lose the device: `BusError` and `Timeout` (60 R210). -/
def isBusKind : ErrKind → Bool
  | .busError | .timeout => true
  | .noError | .invalidRange | .modeConflict | .notInitialized | .illegalCommand => false

/-- `raise k`, TAKING AN EXCEPTION, the abort entry (60 R218): `RES <- 0`, `ERR <- code`, `MISMATCH <- 0`,
`chipState <- Uninitialized` for `BusError` and `Timeout` only, `BUSY <- 0`, `DONE <- 1`. `InterfaceState` and `P`
keep their values; nothing is saved and control goes nowhere; there is no return from it (R219). -/
def raise (k : ErrKind) (s : State) : State :=
  { s with
    resLo := 0
    resHi := 0
    err := k
    mismatch := false
    chipState := if isBusKind k then .uninitialized else s.chipState
    busy := false
    done := true
    eraseRange := none
    writeCursor := none
    checksumAcc := none }

/-! ### How a command's pseudocode ends early -/

/-- Why the rest of a command's pseudocode is not executed. -/
inductive Stop where
  /-- `raise k`, with the state at that point (60 R218). -/
  | raised (k : ErrKind) (s : State)
  /-- A transaction that is never answered: the command never ends (70 R254). -/
  | unanswered (s : State)
  /-- A `MemRead` that is not admitted (20 R54, R71). -/
  | faulted (f : Fault)
  deriving DecidableEq, Repr

/-- The error kind of a failed transaction (20 R61; 60 R211, R212). -/
def errOfFail : FailKind → ErrKind
  | .busError => .busError
  | .timeout => .timeout

/-- The outcome of a command: its end state; after a `raise` the state of R218; while a transaction is never answered
the state in which it waits, with `BUSY` still 1 (70 R254; log 14). -/
def finish : Except Stop State → Host.Outcome State Fault Refusal
  | .ok s => .next s
  | .error (.raised k s) => .next (raise k s)
  | .error (.unanswered s) => .next s
  | .error (.faulted f) => .fault f

/-! ### Bus transactions -/

/-- The answer fixed in advance for a transaction index, if there is one (20 R79). -/
def forcedAnswer (s : State) (n : Nat) : Option BusAnswer := s.forced.lookup n

/-- The answer of the free oracle, or of the Ok oracle, to transaction `n` (20 R63). -/
def oracleAnswer (s : State) (n : Nat) : BusAnswer :=
  match forcedAnswer s n with
  | some a => a
  | none => if s.collab = .okOracle then .ok [] else Config.busAnswer n

/-- Does a transaction set the mapped flag (20 R62, R66, R73)? If so, to what. -/
def mapTarget : Txn → Option Bool
  | .busInit => some false
  | .disableMemoryMap => some false
  | .enableMemoryMap _ => some true
  | .sendCommand _ | .transmit _ | .receive _ | .pollRegister _ => none

/-- The mapped flag after transaction `n` of an oracle: as the transaction says when it answers `Ok`; free when it may
or may not have taken effect (60 R218; 93 U1, U2; log 4). -/
def mappedAfter (t : Txn) (a : BusAnswer) (n : Nat) (mapped : Bool) : Bool :=
  match a, mapTarget t with
  | .ok _, some b => b
  | .ok _, none => mapped
  | .fail .timeout, _ => Config.mappedAfterFailure n
  | .fail .busError, some _ => Config.mappedAfterFailure n
  | .fail .busError, none => mapped
  | .never, some _ => Config.mappedAfterFailure n
  | .never, none => mapped

/-- The answer of a transaction, and the mapped flag and device it leaves. On the reference device a forced failure
skips the device's own change (20 R79). -/
def answerTxn (t : Txn) (s : State) : BusAnswer × Bool × RefDevice :=
  match s.collab with
  | .oracle | .okOracle =>
    let a := oracleAnswer s s.txCount
    (a, mappedAfter t a s.txCount s.mapped, s.dev)
  | .reference =>
    match forcedAnswer s s.txCount with
    | some (.fail k) => (.fail k, s.mapped, s.dev)
    | some .never => (.never, s.mapped, s.dev)
    | some (.ok _) | none => deviceStep s.profile t s.mapped s.dev

/-- Issue a transaction: it is recorded, and the collaborator answers (20 R60, R63). -/
def issue (t : Txn) (s : State) : BusAnswer × State :=
  let r := answerTxn t s
  (r.1, setBus r.2.1 r.2.2 (logTxn t s))

/-- `try Bus(t)` (00 R9, 40 R130): the first failure ends the command. -/
def bus (t : Txn) (s : State) : Except Stop State :=
  match issue t s with
  | (.ok _, s') => .ok s'
  | (.fail k, s') => .error (.raised (errOfFail k) s')
  | (.never, s') => .error (.unanswered s')

/-- `(r, b) <- Bus(Receive(1)); try r` (20 R60, R64; 40 R124). Where an oracle's answer lists no byte, the byte is
free. -/
def busReceiveByte (s : State) : Except Stop (Byte × State) :=
  match issue (.receive 1) s with
  | (.ok rx, s') => .ok (rx.getD 0 (Config.rxByte s.txCount 0), s')
  | (.fail k, s') => .error (.raised (errOfFail k) s')
  | (.never, s') => .error (.unanswered s')

/-! ### System memory -/

/-- Is an address in the flash window `[MMAP_BASE, MMAP_BASE + P.flashSizeBytes)` (20 R54)? -/
def inWindow (s : State) (a : Nat) : Bool :=
  decide (s.platform.mmapBase.toNat ≤ a) && decide (a < s.platform.mmapBase.toNat + s.profile.flashSizeBytes)

/-- Is an address in RAM, where the platform puts it (20 R59)? -/
def inRam (s : State) (a : Nat) : Bool :=
  s.platform.ramRegions.any fun r => decide (r.base ≤ a) && decide (a < r.base + r.size)

/-- The byte that the window shows at a flash offset: the reference device's array (20 R78), or a free byte of the
device (20 R63; log 10). -/
def windowByte (s : State) (o : Nat) : Byte :=
  match s.collab with
  | .reference => flashGet s.dev.flash o
  | .oracle | .okOracle => Config.windowByte s.txCount o

/-- The byte at a `SYS` address (20 R50, R54, R71): the window, else RAM, else nothing backs it. -/
def memByte (s : State) (a : Nat) : Except Fault Byte :=
  if inWindow s a then
    if s.mapped then .ok (windowByte s (a - s.platform.mmapBase.toNat)) else .error (.windowNotMapped a)
  else if inRam s a then .ok (ramGet s.ram a)
  else .error (.unbackedRead a)

/-- The little-endian word at an address (20 R51): the byte at the lowest address is least significant. -/
def memWord (s : State) (a : Nat) : Except Fault Word := do
  let b0 ← memByte s a
  let b1 ← memByte s (a + 1)
  let b2 ← memByte s (a + 2)
  let b3 ← memByte s (a + 3)
  .ok (b3 ++ b2 ++ b1 ++ b0)

/-- `MemRead(addr, 1)` (00 R9, 20 R52). -/
def readByte (addr : Nat) (s : State) : Except Stop (Byte × State) :=
  match memByte s addr with
  | .ok b => .ok (b, logRead addr 1 s)
  | .error f => .error (.faulted f)

/-- `MemRead(addr, 4)` (00 R9, 20 R52). -/
def readWord (addr : Nat) (s : State) : Except Stop (Word × State) :=
  match memWord s addr with
  | .ok w => .ok (w, logRead addr 4 s)
  | .error f => .error (.faulted f)

/-- `[ MemRead(src + i, 1) for i = 0 .. n-1 ]`, ascending (41 R150). -/
def readBytes (src : Nat) : Nat → State → Except Stop (List Byte × State)
  | 0, s => .ok ([], s)
  | n + 1, s => do
    let (b, s) ← readByte src s
    let (bs, s) ← readBytes (src + 1) n s
    .ok (b :: bs, s)

/-! ### Admission -/

/-- The four kinds of row in the admission table (40 R120). -/
inductive AdmissionRow where
  /-- `INIT`. -/
  | initialise
  /-- `RESET`, `POLL_READY`, `CONFIGURE`. -/
  | recovery
  /-- `WRITE_ENABLE`, `ERASE_SECTOR`, `ERASE_CHIP`. -/
  | commandMode
  /-- `MMAP_ENABLE`, `MMAP_DISABLE`, `WRITE`, `SECTOR_ERASE`, `MASS_ERASE`, `CHECKSUM`, `VERIFY`. -/
  | anyMode
  deriving DecidableEq, Repr

/-- A cell of the admission table, or that the table has no such column (10 R25; log 16). -/
inductive Admission where
  | admitted
  | rejected (k : ErrKind)
  | noColumn
  deriving DecidableEq, Repr

/-- The admission table (40 R120). -/
def admission : AdmissionRow → ChipState → Admission
  | _, .erasing => .noColumn
  | _, .programming => .noColumn
  | .initialise, _ => .admitted
  | .recovery, .uninitialized => .rejected .notInitialized
  | .recovery, .memoryMapped => .rejected .modeConflict
  | .recovery, _ => .admitted
  | .commandMode, .uninitialized => .rejected .notInitialized
  | .commandMode, .reset => .rejected .notInitialized
  | .commandMode, .memoryMapped => .rejected .modeConflict
  | .commandMode, _ => .admitted
  | .anyMode, .uninitialized => .rejected .notInitialized
  | .anyMode, .reset => .rejected .notInitialized
  | .anyMode, _ => .admitted

/-- A host command: admission (40 R120), then its pseudocode. -/
def runCommand (row : AdmissionRow) (body : State → Except Stop State) (s : State) :
    Host.Outcome State Fault Refusal :=
  match admission row s.chipState with
  | .admitted => finish (body s)
  | .rejected k => .next (raise k s)
  | .noColumn => .fault .acceptedInTransientState

/-- An operand check: `raise InvalidRange` when it fails, before any access (60 R213, R217). -/
def requireRange (inRange : Bool) (s : State) : Except Stop State :=
  if inRange then .ok s else .error (.raised .invalidRange s)

end Sys2Proof.Machine
end

