-- ==== Sys2Proof/Machine/Protocol.lean ====
section
/-! DEFINITION. The Flash Command Protocol operations (40_flash_command_protocol.md R121 to R128) as the pseudocode
that a `call` runs: without the admission check and without `return`. The host commands are in Primitives.lean. -/

namespace Sys2Proof.Machine

/-- The rounds of `Reset()` (40 R121). -/
def resetRounds (s : State) : List Lines :=
  if s.profile.multiLineReset then [.l1, .l4, .l8] else [.l1]

/-- The reset-enable and reset-execute commands of the given rounds, in order (40 R121). -/
def sendResetRounds : List Lines → State → Except Stop State
  | [], s => .ok s
  | r :: rs, s => do
    let s ← bus (resetCommand s.profile.opResetEnable r) s
    let s ← bus (resetCommand s.profile.opResetExecute r) s
    sendResetRounds rs s

/-- `Reset()` (40 R121). -/
def doReset (s : State) : Except Stop State := do
  let s ← sendResetRounds (resetRounds s) s
  .ok (setChip .reset (setIface resetInterface s))

/-- `WriteEnable()` as a call (40 R122). -/
def doWriteEnable (s : State) : Except Stop State := do
  let s ← bus (plainCommand s s.profile.opWriteEnable .absent) s
  bus (welPoll s) s

/-- `PollUntilReady(t)` as a call (40 R123). -/
def doPollReady (timeoutMs : Word) (s : State) : Except Stop State := bus (readyPoll s timeoutMs) s

/-- A command whose data phase receives one byte (20 R64, 40 R124). -/
def readRegister (op : Byte) (s : State) : Except Stop (Byte × State) := do
  let s ← bus (plainCommand s op (currentLines s)) s
  busReceiveByte s

/-- A command whose data phase sends bytes (20 R64, 40 R124). -/
def writeRegister (op : Byte) (bytes : List Byte) (s : State) : Except Stop State := do
  let s ← bus (plainCommand s op (currentLines s)) s
  bus (.transmit bytes) s

/-- The enter-4-byte-address step of `Configure()` (40 R124). -/
def enterFourByte (s : State) : Except Stop State :=
  if s.profile.addressWidthBits = .w32 then do
    let s ← bus (plainCommand s s.profile.opEnter4Byte .absent) s
    .ok (setAddrWidth .w32 s)
  else .ok s

/-- The multi-line step of `Configure()`: enter-4-byte, then enter-mode, each `IF` field written right after the
transaction that changes the device (40 R124). -/
def enterMultiLine (s : State) : Except Stop State :=
  if s.profile.configuredMode ≠ .single then do
    let s ← enterFourByte s
    let s ← bus (plainCommand s s.profile.opEnterMode .absent) s
    .ok (setModeRate s.profile.configuredMode s.profile.configuredRate s)
  else .ok s

/-- The wrap-disable step of `Configure()`, on the new mode's lines (40 R124). -/
def disableWrap (s : State) : Except Stop State :=
  if s.profile.hasWrap then writeRegister s.profile.opWrapDisable [s.profile.wrapDisableData] s else .ok s

/-- `Configure()` (40 R124). -/
def doConfigure (s : State) : Except Stop State := do
  let (sr, s) ← readRegister s.profile.opReadStatus s
  let (cr, s) ← readRegister s.profile.opReadConfig s
  let s ← doWriteEnable s
  let s ← writeRegister s.profile.opWriteStatus [sr ||| s.profile.srOrMask, cr ||| s.profile.crOrMask] s
  let s ← doPollReady s.platform.defaultTimeoutMs s
  let s ← enterMultiLine s
  let s ← disableWrap s
  .ok (setChip .configured s)

/-- `EraseSector(addr)` (40 R125). -/
def doEraseSector (addr : Nat) (s : State) : Except Stop State := do
  let s ← doWriteEnable s
  let s := setChip .erasing s
  let s ← bus (addressCommand s (eraseOpcode s) .absent addr) s
  let s ← doPollReady s.profile.sectorEraseTimeoutMs s
  .ok (setChip .idle s)

/-- `EraseChip()` (40 R126). -/
def doEraseChip (s : State) : Except Stop State := do
  let s ← doWriteEnable s
  let s := setChip .erasing s
  let s ← bus (plainCommand s s.profile.opEraseChip .absent) s
  let s ← doPollReady s.profile.maxEraseTimeoutMs s
  .ok (setChip .idle s)

/-- `EnableMemoryMappedMode()`: no transaction when already mapped (40 R127). -/
def doMapEnable (s : State) : Except Stop State :=
  if s.chipState = .memoryMapped then .ok s
  else do
    let s ← bus (mapCommand s) s
    .ok (setChip .memoryMapped s)

/-- `DisableMemoryMappedMode()`: always issued (40 R128). -/
def doMapDisable (s : State) : Except Stop State := do
  let s ← bus .disableMemoryMap s
  .ok (setChip .idle s)

end Sys2Proof.Machine
end

