-- ==== Sys2Proof/Machine/ChecksumVerify.lean ====
section
/-! DEFINITION. The checksum_verify_engine: `Checksum`, `CHECKSUM` and `VERIFY` (42_checksum_verify.md R170 to
R179). -/

namespace Sys2Proof.Machine

/-- `headSkip = startAddress mod 4` (10 R30). -/
def headSkipOf (start : Nat) : Nat := start % 4

/-- `tailSkip = (4 - ((startAddress + size) mod 4)) mod 4` (10 R30). -/
def tailSkipOf (start size : Nat) : Nat := (4 - (start + size) % 4) % 4

/-- `word[8*b+7 : 8*b]` (00 R7, 20 R51). -/
def byteOfWord (w : Word) (b : Nat) : Byte := w.extractLsb' (8 * b) 8

/-- What byte `b` of the word at `w` adds to the sum: the byte inside `[start, stop)`, nothing outside (42 R170). -/
def summand (start stop w : Nat) (word : Word) (b : Nat) : Word :=
  if start ≤ w + b ∧ w + b < stop then (byteOfWord word b).setWidth 32 else 0

/-- The sum of one word's bytes that lie inside `[start, stop)`, modulo 2^32 (42 R170, R175). -/
def wordSum (start stop w : Nat) (word : Word) : Word :=
  summand start stop w word 0 + summand start stop w word 1 + summand start stop w word 2 + summand start stop w word 3

/-- The word loop of `Checksum` (42 R170): `n` words from `w` on. -/
def checksumLoop (start stop : Nat) : Nat → Nat → ChecksumAccumulator → State →
    Except Stop (ChecksumAccumulator × State)
  | 0, _, acc, s => .ok (acc, s)
  | n + 1, w, acc, s => do
    let (word, s) ← readWord w (setChecksumAcc acc s)
    checksumLoop start stop n (w + 4) { acc with sum := acc.sum + wordSum start stop w word } s

/-- `Checksum(startAddress, size, initialValue)` (42 R170): no read at all for size 0, otherwise every aligned word
that meets the range, `(headSkip + size + tailSkip) / 4` of them. -/
def doChecksum (start size : Nat) (seed : Word) (s : State) : Except Stop (Word × State) :=
  if size = 0 then .ok (seed, s)
  else do
    let acc : ChecksumAccumulator := ⟨seed, headSkipOf start, tailSkipOf start size⟩
    let words := (acc.headSkip + size + acc.tailSkip) / 4
    let (acc, s) ← checksumLoop start (start + size) words (start - acc.headSkip) acc s
    .ok (acc.sum, setChecksumAcc acc s)

/-- The operand check of `CHECKSUM` (42 R171, 60 R213). -/
def checksumInRange (start size : Word) : Bool := decide (start.toNat + size.toNat ≤ 2 ^ 32)

/-- `CHECKSUM(startAddr, size, initVal)` (42 R171). -/
def execChecksum (start size seed : Word) (s : State) : Host.Outcome State Fault Refusal :=
  runCommand .anyMode (fun s => do
    let s ← requireRange (checksumInRange start size) s
    let s ← doMapEnable s
    let (sum, s) ← doChecksum start.toNat size.toNat seed s
    .ok (complete (sum.setWidth 64) s)) s

/-- The compare of `VERIFY` (42 R173, R177): `n` byte pairs from the two addresses on, flash byte first, up to the
first difference, whose flash address it answers. -/
def compareLoop : Nat → Nat → Nat → State → Except Stop (Option Nat × State)
  | 0, _, _, s => .ok (none, s)
  | n + 1, flash, ram, s => do
    let (f, s) ← readByte flash s
    let (r, s) ← readByte ram s
    if f = r then compareLoop n (flash + 1) (ram + 1) s else .ok (some flash, s)

/-- The operand checks of `VERIFY` (42 R173, 60 R213). -/
def verifyInRange (flash ram wordCount : Word) (headExtra tailExtra : BitVec 4) : Bool :=
  let size := 4 * wordCount.toNat
  decide (size < 2 ^ 32) && decide (tailExtra.toNat ≤ size) && decide (flash.toNat + size ≤ 2 ^ 32) &&
    decide (ram.toNat + size ≤ 2 ^ 32) &&
    decide (flash.toNat + headExtra.toNat + (size - tailExtra.toNat) ≤ 2 ^ 32)

/-- `(ck << 32) | address` (42 R173, 30 R94). -/
def verifyResult (ck : Word) (address : Nat) : DWord := ck ++ BitVec.ofNat 32 address

/-- The end of `VERIFY` after the compare: `MISMATCH` and the packed result (42 R173, R174). -/
def verifyEnd (ck : Word) (mismatchAt : Option Nat) (s : State) : State :=
  match mismatchAt with
  | some a => complete (verifyResult ck a) (setMismatch s)
  | none => complete (verifyResult ck 0) s

/-- `VERIFY(flashAddr, ramBufferAddr, wordCount, misalignment)` (42 R173). -/
def execVerify (flash ram wordCount : Word) (headExtra tailExtra : BitVec 4) (s : State) :
    Host.Outcome State Fault Refusal :=
  runCommand .anyMode (fun s => do
    let size := 4 * wordCount.toNat
    let s ← requireRange (verifyInRange flash ram wordCount headExtra tailExtra) s
    let s ← doMapEnable s
    let (ck, s) ← doChecksum (flash.toNat + headExtra.toNat) (size - tailExtra.toNat) 0 s
    let (at?, s) ← compareLoop size flash.toNat ram.toNat s
    .ok (verifyEnd ck at? s)) s

end Sys2Proof.Machine
end

