-- ==== Sys2Proof/Machine/HostOperations.lean ====
section
/-! DEFINITION. The host operations `INIT`, `SECTOR_ERASE` and `MASS_ERASE` (43_host_operations.md R190 to R194). -/

namespace Sys2Proof.Machine

/-- The body of `INIT` (43 R190). -/
def doInit (s : State) : Except Stop State := do
  let s := latchProfile s
  let s ← bus .busInit s
  let s ← doReset s
  let s ← doPollReady s.platform.defaultTimeoutMs s
  let s ← doConfigure s
  let s ← doMapEnable s
  .ok (complete 1 s)

/-- `INIT` (43 R190). An illegal profile on `profileIn` is refused (10 R27; log 18). -/
def execInit (s : State) : Host.Outcome State Fault Refusal :=
  if s.profileIn.legal then runCommand .initialise doInit s else .refused .illegalProfile

/-- The sector loop of `SECTOR_ERASE` (43 R191): the iteration variable `a` is a natural and never wraps. The first
argument bounds the iterations; `stop + 1 - a` of them suffice when the sector size is positive, as every legal
profile has it. With a sector size of 0 the loop of R191 would never end, and so the command never does (log 15). -/
def eraseLoop (start stop : Nat) : Nat → Nat → State → Except Stop State
  | 0, a, s => if a ≤ stop then .error (.unanswered s) else .ok s
  | fuel + 1, a, s =>
    if a ≤ stop then do
      let s ← doEraseSector a (setEraseRange ⟨start, stop, a⟩ s)
      eraseLoop start stop fuel (a + s.profile.sectorSizeBytes) s
    else .ok s

/-- `alignedStart = start - (start mod sectorSize)` (10 R28). -/
def alignedStart (s : State) (start : Nat) : Nat := start - start % s.profile.sectorSizeBytes

/-- The operand check of `SECTOR_ERASE`, under `ENFORCE_RANGE` (43 R191, 60 R213). -/
def sectorEraseInRange (startAddr endAddr : Word) (s : State) : Bool :=
  !s.platform.enforceRange ||
    (decide (toOffset s startAddr < s.profile.flashSizeBytes) && decide (toOffset s endAddr < s.profile.flashSizeBytes))

/-- `SECTOR_ERASE(startAddr, endAddr)` (43 R191). -/
def execSectorErase (startAddr endAddr : Word) (s : State) : Host.Outcome State Fault Refusal :=
  runCommand .anyMode (fun s => do
    let start := toOffset s startAddr
    let stop := toOffset s endAddr
    let s ← requireRange (sectorEraseInRange startAddr endAddr s) s
    let s ← doMapDisable s
    let a := alignedStart s start
    let s ← eraseLoop start stop (stop + 1 - a) a (setEraseRange ⟨start, stop, a⟩ s)
    .ok (complete 1 s)) s

/-- `MASS_ERASE(parallelism)`, the operand ignored (43 R192). -/
def execMassErase (_parallelism : Word) (s : State) : Host.Outcome State Fault Refusal :=
  runCommand .anyMode (fun s => do
    let s ← doMapDisable s
    let s ← doEraseChip s
    .ok (complete 1 s)) s

end Sys2Proof.Machine
end

