-- ==== Sys2Proof/Machine/PageWrite.lean ====
section
/-! DEFINITION. The page_write_splitter: `ProgramChunk` and `WRITE` (41_page_write.md R150 to R155). -/

namespace Sys2Proof.Machine

/-- `ProgramChunk(off, n, src)` (41 R150): the bytes are fetched before the write-enable. -/
def doProgramChunk (off n src : Nat) (s : State) : Except Stop State := do
  let (data, s) ← readBytes src n s
  let s ← doWriteEnable s
  let s := setChip .programming s
  let s ← bus (addressCommand s (programOpcode s) (currentLines s) off) s
  let s ← bus (.transmit data) s
  let s ← doPollReady s.profile.programTimeoutMs s
  .ok (setChip .idle s)

/-- The length of the first chunk: bytes to the next page boundary, capped at the whole write (41 R151 step 1). -/
def firstChunk (page cur rem : Nat) : Nat := min rem (page - cur % page)

/-- The chunk loop of `WRITE` (41 R151): `cur`, `rem`, `bo` are the write cursor, `n` the next chunk's length. The
first argument bounds the iterations; `rem` of them suffice when the page size is positive, as every legal profile
has it. With a page size of 0 the loop of R151 would never end, and so the command never does (log 15). -/
def writeLoop (buffer : Nat) : Nat → Nat → Nat → Nat → Nat → State → Except Stop State
  | 0, _, rem, _, _, s => if rem = 0 then .ok s else .error (.unanswered s)
  | fuel + 1, cur, rem, bo, n, s =>
    if rem = 0 then .ok s
    else do
      let s ← doProgramChunk cur n (buffer + bo) (setWriteCursor ⟨cur, rem, bo⟩ s)
      writeLoop buffer fuel (cur + n) (rem - n) (bo + n) (min s.profile.pageSizeBytes (rem - n)) s

/-- The operand checks of `WRITE` (41 R151, 60 R213). -/
def writeInRange (address size buffer : Word) (s : State) : Bool :=
  decide (buffer.toNat + size.toNat ≤ 2 ^ 32) &&
    (!s.platform.enforceRange || decide (toOffset s address + size.toNat ≤ s.profile.flashSizeBytes))

/-- `WRITE(address, size, buffer)` (41 R151). -/
def execWrite (address size buffer : Word) (s : State) : Host.Outcome State Fault Refusal :=
  runCommand .anyMode (fun s => do
    let off := toOffset s address
    let s ← requireRange (writeInRange address size buffer s) s
    let s ← doMapDisable s
    let s ← writeLoop buffer.toNat size.toNat off size.toNat 0 (firstChunk s.profile.pageSizeBytes off size.toNat)
      (setWriteCursor ⟨off, size.toNat, 0⟩ s)
    .ok (complete 1 s)) s

end Sys2Proof.Machine
end

