-- ==== Sys2Proof/Machine/Primitives.lean ====
section
/-! DEFINITION. The meanings of the eight primitives as host commands (40_flash_command_protocol.md R121 to R128). -/

namespace Sys2Proof.Machine

/-- `RESET` (40 R121). -/
def execReset (s : State) : Host.Outcome State Fault Refusal :=
  runCommand .recovery (fun s => do
    let s ← doReset s
    .ok (complete 1 s)) s

/-- `WRITE_ENABLE` (40 R122). -/
def execWriteEnable (s : State) : Host.Outcome State Fault Refusal :=
  runCommand .commandMode (fun s => do
    let s ← doWriteEnable s
    .ok (complete 1 (setChip .idle s))) s

/-- `chipState` after a host `POLL_READY`: `Reset` stays, anything else becomes `Idle` (40 R123). -/
def afterPollReady : ChipState → ChipState
  | .reset => .reset
  | .uninitialized | .configured | .idle | .erasing | .programming | .memoryMapped => .idle

/-- `POLL_READY(timeoutMs)` (40 R123). -/
def execPollReady (timeoutMs : Word) (s : State) : Host.Outcome State Fault Refusal :=
  runCommand .recovery (fun s => do
    let s ← doPollReady timeoutMs s
    .ok (complete 1 (setChip (afterPollReady s.chipState) s))) s

/-- `CONFIGURE` (40 R124). -/
def execConfigure (s : State) : Host.Outcome State Fault Refusal :=
  runCommand .recovery (fun s => do
    let s ← doConfigure s
    .ok (complete 1 s)) s

/-- The capacity check of `ERASE_SECTOR`, under `ENFORCE_RANGE` (40 R125, 60 R213). -/
def eraseSectorInRange (addr : Word) (s : State) : Bool :=
  !s.platform.enforceRange || decide (addr.toNat < s.profile.flashSizeBytes)

/-- `ERASE_SECTOR(addr)`, the offset used as given (40 R125, 30 R92). -/
def execEraseSector (addr : Word) (s : State) : Host.Outcome State Fault Refusal :=
  runCommand .commandMode (fun s => do
    let s ← requireRange (eraseSectorInRange addr s) s
    let s ← doEraseSector addr.toNat s
    .ok (complete 1 s)) s

/-- `ERASE_CHIP` (40 R126). -/
def execEraseChip (s : State) : Host.Outcome State Fault Refusal :=
  runCommand .commandMode (fun s => do
    let s ← doEraseChip s
    .ok (complete 1 s)) s

/-- `MMAP_ENABLE` (40 R127). -/
def execMmapEnable (s : State) : Host.Outcome State Fault Refusal :=
  runCommand .anyMode (fun s => do
    let s ← doMapEnable s
    .ok (complete 1 s)) s

/-- `MMAP_DISABLE` (40 R128). -/
def execMmapDisable (s : State) : Host.Outcome State Fault Refusal :=
  runCommand .anyMode (fun s => do
    let s ← doMapDisable s
    .ok (complete 1 s)) s

end Sys2Proof.Machine
end

