-- ==== Sys2Proof/Machine/Dispatch.lean ====
section
/-! DEFINITION. One arm per command (30_encoding.md R91). `exec i s` is the command `i`, accepted in state `s`
(10_state.md R23), run to its end. -/

namespace Sys2Proof.Machine

def exec (i : Instr) (s : State) : Host.Outcome State Fault Refusal :=
  match i with
  | .init => Sys2Proof.Machine.execInit s
  | .write address size buffer => Sys2Proof.Machine.execWrite address size buffer s
  | .sectorErase startAddr endAddr => Sys2Proof.Machine.execSectorErase startAddr endAddr s
  | .massErase parallelism => Sys2Proof.Machine.execMassErase parallelism s
  | .checksum startAddr size initVal => Sys2Proof.Machine.execChecksum startAddr size initVal s
  | .verify flashAddr ramBufferAddr wordCount headExtra tailExtra => Sys2Proof.Machine.execVerify flashAddr ramBufferAddr wordCount headExtra tailExtra s
  | .reset => Sys2Proof.Machine.execReset s
  | .writeEnable => Sys2Proof.Machine.execWriteEnable s
  | .pollReady timeoutMs => Sys2Proof.Machine.execPollReady timeoutMs s
  | .configure => Sys2Proof.Machine.execConfigure s
  | .eraseSector addr => Sys2Proof.Machine.execEraseSector addr s
  | .eraseChip => Sys2Proof.Machine.execEraseChip s
  | .mmapEnable => Sys2Proof.Machine.execMmapEnable s
  | .mmapDisable => Sys2Proof.Machine.execMmapDisable s

end Sys2Proof.Machine
end

