-- ==== Sys2Proof/Machine/HostPort.lean ====
section
/-! DEFINITION. The host's moves: the register port (10_state.md section 2, R21 to R23; 20_memory.md R56), `SYS`
stores and loads (20 R70, R71; 70 R244), the `profileIn` port (20 R69) and the reset input (70 R240, R241). -/

namespace Sys2Proof.Machine

/-- The words latched with a `CMD` write (10 R23, 30 R90). -/
def latchedWords (s : State) (v : Word) : CommandWords := ⟨v, s.arg0, s.arg1, s.arg2, s.arg3⟩

/-- The run of an accepted command: an illegal code raises `IllegalCommand` before anything else (30 R99, 60 R216,
R217). -/
def runAccepted (d : Except DecodeRejection Instr) (s : State) : Host.Outcome State Fault Refusal :=
  match d with
  | .ok i => exec i s
  | .error (.illegalCommand _) => .next (raise .illegalCommand s)

/-- A host write of `v` to `CMD` (10 R23): ignored while `BUSY`; otherwise the command is accepted and runs. -/
def writeCommand (v : Word) (s : State) : Host.Outcome State Fault Refusal :=
  if s.busy then .next s
  else runAccepted (decode (latchedWords s v)) (accept (commandCode (latchedWords s v)) s)

/-- A host write to `ARGi` (10 R21): ignored while `BUSY`. -/
def writeArg (i : Nat) (v : Word) (s : State) : State :=
  if s.busy then s
  else
    match i with
    | 0 => { s with arg0 := v }
    | 1 => { s with arg1 := v }
    | 2 => { s with arg2 := v }
    | 3 => { s with arg3 := v }
    | _ => s

/-- A host write to the register port (20 R56): 32 bits wide at a multiple of 4 up to `0x1C`, else refused. `RES_LO`,
`RES_HI` and `STATUS` are read only and keep their values (10 section 2; log 12). -/
def writeRegisterPort (offset width : Nat) (v : Word) (s : State) : Host.Outcome State Fault Refusal :=
  if width = 4 then
    match offset with
    | 0x00 => writeCommand v s
    | 0x04 => .next (writeArg 0 v s)
    | 0x08 => .next (writeArg 1 v s)
    | 0x0C => .next (writeArg 2 v s)
    | 0x10 => .next (writeArg 3 v s)
    | 0x14 | 0x18 | 0x1C => .next s
    | _ => .refused (.hostAccess offset width)
  else .refused (.hostAccess offset width)

/-- What the host reads at a register offset (10 section 2, R22, R24): `RES` reads 0 while `BUSY`, `CMD` the last
accepted code (log 20). -/
def readRegisterPort (offset : Nat) (s : State) : Option Word :=
  match offset with
  | 0x00 => some (s.cmd.setWidth 32)
  | 0x04 => some s.arg0
  | 0x08 => some s.arg1
  | 0x0C => some s.arg2
  | 0x10 => some s.arg3
  | 0x14 => some (if s.busy then 0 else s.resLo)
  | 0x18 => some (if s.busy then 0 else s.resHi)
  | 0x1C => some (statusWord s)
  | _ => none

/-- A host read of the register port: no side effect on the block (20 R56). -/
def hostRead (offset width : Nat) (s : State) : Host.Outcome State Fault Refusal :=
  match (if width = 4 then readRegisterPort offset s else none) with
  | some v => .next { s with hostData := v }
  | none => .refused (.hostAccess offset width)

/-- The buffers, as base and size, that the running command reads and the host keeps unchanged while `BUSY`
(20 R70 (a), 70 R250): `WRITE`'s source, the range of a `CHECKSUM`, `VERIFY`'s reference. -/
def busyBuffer (s : State) : Option (Nat × Nat) :=
  if s.busy then
    match s.cmd.toNat with
    | 0x02 => some (s.arg2.toNat, s.arg1.toNat)
    | 0x05 => some (s.arg0.toNat, s.arg1.toNat)
    | 0x06 => some (s.arg1.toNat, 4 * s.arg2.toNat)
    | _ => none
  else none

/-- Is an address in the buffer of the running command? -/
def inBusyBuffer (s : State) (a : Nat) : Bool :=
  match busyBuffer s with
  | some (base, size) => decide (base ≤ a) && decide (a < base + size)
  | none => false

/-- A host store of a byte into RAM (20 R71). A store into the window or into a buffer in use is refused (log 17), a
store where no region backs the address faults (20 R59; log 7). -/
def hostStore (addr : Word) (b : Byte) (s : State) : Host.Outcome State Fault Refusal :=
  if inWindow s addr.toNat then .refused (.storeIntoWindow addr.toNat)
  else if !inRam s addr.toNat then .fault (.unbackedStore addr.toNat)
  else if inBusyBuffer s addr.toNat then .refused (.storeIntoBusyBuffer addr.toNat)
  else .next { s with ram := memPut s.ram addr.toNat b }

/-- The host's own load of a byte of `SYS`; the window is readable only while mapped (20 R54, 70 R244;
log 21). -/
def hostLoad (addr : Word) (s : State) : Host.Outcome State Fault Refusal :=
  match memByte s addr.toNat with
  | .ok b => .next { s with hostData := b.setWidth 32 }
  | .error f => .fault f

/-- A change of the `profileIn` port: only a legal profile (10 R27, 20 R70 (c)); no effect on `P` until the next
`INIT` (20 R69; log 18). -/
def driveProfileIn (p : DeviceProfile) (s : State) : Host.Outcome State Fault Refusal :=
  if p.legal then .next { s with profileIn := p } else .refused .illegalProfile

/-- The block's hardware reset (70 R240, R241): every register of the block as after reset, a running command
abandoned without `raise`, no transaction, the bus and the device as they were (log 19). -/
def hardwareReset (s : State) : State :=
  { s with
    cmd := 0
    arg0 := 0
    arg1 := 0
    arg2 := 0
    arg3 := 0
    resLo := 0
    resHi := 0
    busy := false
    done := false
    mismatch := false
    err := .noError
    chipState := .uninitialized
    iface := resetInterface
    profile := blankProfile
    eraseRange := none
    writeCursor := none
    checksumAcc := none }

/-- `WAIT`: one read of `STATUS`; the move is over when it shows `DONE = 1`, else the host reads again (30 R100). -/
def hostWait (s : State) : State :=
  let read := { s with hostData := statusWord s }
  if s.done then read else { read with moves := .waitDone :: s.moves }

/-- One move of the host, in the state from which it has been taken off the list. -/
def hostMove (m : HostMove) (s : State) : Host.Outcome State Fault Refusal :=
  match m with
  | .write offset width v => writeRegisterPort offset width v s
  | .read offset width => hostRead offset width s
  | .waitDone => .next (hostWait s)
  | .store addr b => hostStore addr b s
  | .load addr => hostLoad addr s
  | .driveProfile p => driveProfileIn p s
  | .hardwareReset => .next (hardwareReset s)

/-- The next step of the run: the host's next move, or, when it has none, the block waits (10 R34). -/
def nextMove (s : State) : Host.Outcome State Fault Refusal :=
  match s.moves with
  | [] => .next s
  | m :: rest => hostMove m { s with moves := rest }

/-- The register writes and reads that one line of a host program stands for (30 R100): write `ARG0..ARG3`, write
`CMD`, read `STATUS` until `DONE = 1`, read `RES`. -/
def hostLine (w : CommandWords) : List HostMove :=
  [.write 0x04 4 w.a0, .write 0x08 4 w.a1, .write 0x0C 4 w.a2, .write 0x10 4 w.a3, .write 0x00 4 w.cmd, .waitDone,
    .read 0x14 4, .read 0x18 4]

/-- A host program is a list of lines (30 R100). -/
def hostProgram (lines : List CommandWords) : List HostMove := lines.flatMap hostLine

/-- The state in which the host's next move writes `w.cmd` to `CMD` with the argument registers holding the other
words, and the block is not busy: the place where the machine takes its next command from (10 R23, 30 R100). -/
def placeCommand (w : CommandWords) (s : State) : State :=
  { s with
    arg0 := w.a0
    arg1 := w.a1
    arg2 := w.a2
    arg3 := w.a3
    busy := false
    moves := .write 0x00 4 w.cmd :: s.moves }

end Sys2Proof.Machine
end

