-- ==== Sys2Proof/Machine/Step.lean ====
section
/-! DEFINITION. One step of the run: the host's next move, with the command it starts (20_memory.md R65, R70). -/

namespace Sys2Proof.Machine

/-- One step (log 1). -/
def step (s : State) : Host.Outcome State Fault Refusal := nextMove s

/-- `s` with the command of a table row as the host's next `CMD` write; see `placeCommand`. -/
def State.withFetchWord (s : State) (nbits w : Nat) : State := placeCommand (commandWordsOf nbits w) s

end Sys2Proof.Machine
end

