-- ==== Sys2Proof/Safety.lean ====
section
/-! DEFINITION. The terms that the statements use: the invariant of the machine, what is asked of a collaborator and
of a buffer, and, for every command, the list of its outputs as the spec's rules give it (transactions and `MemRead`s
in order). -/

namespace Sys2Proof.Machine

/-! ### The invariant -/

/-- What holds in every state that a run reaches from a state where it holds. -/
structure Inv (s : State) : Prop where
  /-- Between commands `chipState` is one of the five resting states (10 R25). -/
  resting : s.busy = false → isResting s.chipState = true
  /-- Between commands there is no transient value (10 R28 to R30, R34). -/
  noTransients : s.busy = false → s.eraseRange = none ∧ s.writeCursor = none ∧ s.checksumAcc = none
  /-- Outside `Uninitialized` the latched profile is a legal one (10 R27). -/
  profileLegal : s.chipState ≠ .uninitialized → s.profile.legal = true
  /-- Between commands `MemoryMapped` mirrors the collaborator's mapped flag (10 R33 (b)). -/
  mirrorsMapped : s.busy = false → s.chipState = .memoryMapped → s.mapped = true
  /-- While a command runs, `DONE`, `ERR`, `MISMATCH` and `RES` are clear (10 R22, R23). -/
  busyClear : s.busy = true →
    s.done = false ∧ s.err = .noError ∧ s.mismatch = false ∧ s.resLo = 0 ∧ s.resHi = 0
  /-- An error leaves `RES = 0` and `MISMATCH = 0` (60 R218). -/
  errorClears : s.err ≠ .noError → s.resLo = 0 ∧ s.resHi = 0 ∧ s.mismatch = false
  /-- `BusError` and `Timeout` leave `Uninitialized` (60 R218). -/
  errorLosesDevice : isBusKind s.err = true → s.chipState = .uninitialized
  /-- `SYS` is in canonical form. -/
  ramWf : memWf ramUnlisted s.ram
  /-- The reference device's array is in canonical form. -/
  flashWf : memWf (some erasedByte) s.dev.flash
  /-- `SYS` addresses are 32 bits wide (20 R50). -/
  ramBounded : ∀ c ∈ s.ram, c.1 < 2 ^ 32
  /-- The host's stored bytes lie in RAM (20 R59, R71). -/
  ramBacked : ∀ c ∈ s.ram, inRam s c.1 = true

/-! ### The collaborator and the buffers -/

/-- From now on the collaborator is an oracle whose every answer is `Ok` (20 R63, 70 R256 "with an `Ok` oracle"). -/
def AnswersOk (s : State) : Prop :=
  s.collab ≠ .reference ∧ ∀ n, s.txCount ≤ n → ∃ rx, oracleAnswer s n = .ok rx

/-- The collaborator is an oracle that answers `Ok` to the next `k` transactions and never answers the one after them
(70 R254). -/
def NeverAnswers (s : State) (k : Nat) : Prop :=
  s.collab ≠ .reference ∧ (∀ j < k, ∃ rx, oracleAnswer s (s.txCount + j) = .ok rx) ∧
    oracleAnswer s (s.txCount + k) = .never

/-- The byte that transaction `n`, a `Receive(1)`, brings from an oracle that answers `Ok`. -/
def receivedByte (s : State) (n : Nat) : Byte :=
  match oracleAnswer s n with
  | .ok rx => rx.getD 0 (Config.rxByte n 0)
  | .fail _ => Config.rxByte n 0
  | .never => Config.rxByte n 0

/-- RAM, outside the window, reads the bytes of `data` from `base` on (20 R71). -/
def RamHolds (s : State) (base : Nat) (data : List Byte) : Prop :=
  ∀ i b, data[i]? = some b → inWindow s (base + i) = false ∧ memByte s (base + i) = .ok b

/-- Every byte of the aligned cover of `[start, start + size)` is readable, as `m` gives it (20 R53). -/
def CoverReads (s : State) (start size : Nat) (m : Nat → Byte) : Prop :=
  ∀ a, start - start % 4 ≤ a → a < start + size + tailSkipOf start size → memByte s a = .ok (m a)

/-- Every byte of `[start, start + size)` is readable, as `m` gives it. -/
def RangeReads (s : State) (start size : Nat) (m : Nat → Byte) : Prop :=
  ∀ k, k < size → memByte s (start + k) = .ok (m (start + k))

/-! ### Outputs -/

/-- The mapped flag after a transaction that answered `Ok` (20 R62, R66). -/
def mappedOk (t : Txn) (mapped : Bool) : Bool := (mapTarget t).getD mapped

/-- The state after an output of the block to a collaborator that answered `Ok`. -/
def afterEvent (s : State) : Event → State
  | .bus t => setBus (mappedOk t s.mapped) s.dev (logTxn t s)
  | .memRead a n => logRead a n s

/-- The state after a list of outputs, in order, all answered `Ok`: recorded in the trace and counted, the mapped flag
as the last mapping transaction says, nothing else changed. -/
def afterEvents (es : List Event) (s : State) : State := es.foldl afterEvent s

/-- `WriteEnable()` (40 R122). -/
def writeEnableOutputs (s : State) : List Event :=
  [Event.bus (plainCommand s s.profile.opWriteEnable .absent), Event.bus (welPoll s)]

/-- `Reset()`: enable and execute for each round (40 R121). -/
def resetOutputs (s : State) : List Event :=
  (resetRounds s).flatMap fun r =>
    [Event.bus (resetCommand s.profile.opResetEnable r), Event.bus (resetCommand s.profile.opResetExecute r)]

/-- `InterfaceState` after `Configure()` (40 R124). -/
def configuredIface (s : State) : InterfaceState :=
  if s.profile.configuredMode = .single then s.iface
  else ⟨s.profile.configuredMode, s.profile.configuredRate,
    if s.profile.addressWidthBits = .w32 then .w32 else s.iface.addrw⟩

/-- `Configure()` with the two bytes received (40 R124). -/
def configureOutputs (s : State) (sr cr : Byte) : List Event :=
  [Event.bus (plainCommand s s.profile.opReadStatus (currentLines s)), Event.bus (.receive 1),
    Event.bus (plainCommand s s.profile.opReadConfig (currentLines s)), Event.bus (.receive 1)] ++
  writeEnableOutputs s ++
  [Event.bus (plainCommand s s.profile.opWriteStatus (currentLines s)),
    Event.bus (.transmit [sr ||| s.profile.srOrMask, cr ||| s.profile.crOrMask]),
    Event.bus (readyPoll s s.platform.defaultTimeoutMs)] ++
  (if s.profile.configuredMode = .single then []
    else (if s.profile.addressWidthBits = .w32 then [Event.bus (plainCommand s s.profile.opEnter4Byte .absent)] else []) ++
      [Event.bus (plainCommand s s.profile.opEnterMode .absent)]) ++
  (if s.profile.hasWrap then
    let s' := setIface (configuredIface s) s
    [Event.bus (plainCommand s' s.profile.opWrapDisable (currentLines s')), Event.bus (.transmit [s.profile.wrapDisableData])]
    else [])

/-- `EraseSector(addr)` (40 R125). -/
def eraseSectorOutputs (s : State) (addr : Nat) : List Event :=
  writeEnableOutputs s ++
    [Event.bus (addressCommand s (eraseOpcode s) .absent addr), Event.bus (readyPoll s s.profile.sectorEraseTimeoutMs)]

/-- `EraseChip()` (40 R126). -/
def eraseChipOutputs (s : State) : List Event :=
  writeEnableOutputs s ++
    [Event.bus (plainCommand s s.profile.opEraseChip .absent), Event.bus (readyPoll s s.profile.maxEraseTimeoutMs)]

/-- `EnableMemoryMappedMode()`: nothing when already mapped (40 R127). -/
def mapEnableOutputs (s : State) : List Event :=
  if s.chipState = .memoryMapped then [] else [Event.bus (mapCommand s)]

/-- The state in which `CHECKSUM` and `VERIFY` start to read: memory-mapped mode entered (42 R171, R173). -/
def mapEntered (s : State) : State := setChip .memoryMapped (afterEvents (mapEnableOutputs s) s)

/-- `INIT` after the profile is latched, with the two bytes that `Configure()` receives (43 R190). -/
def initOutputs (s : State) (sr cr : Byte) : List Event :=
  let s1 := setIface resetInterface s
  let s2 := setIface (configuredIface s1) s1
  [Event.bus .busInit] ++ resetOutputs s ++ [Event.bus (readyPoll s1 s.platform.defaultTimeoutMs)] ++
    configureOutputs s1 sr cr ++ [Event.bus (mapCommand s2)]

/-- `[ MemRead(src + i, 1) for i = 0 .. n-1 ]` (41 R150). -/
def byteReads (src n : Nat) : List Event := (List.range n).map fun i => Event.memRead (src + i) 1

/-- `ProgramChunk(off, n, src)` with its bytes (41 R150). -/
def programChunkOutputs (s : State) (off src : Nat) (data : List Byte) : List Event :=
  byteReads src data.length ++ writeEnableOutputs s ++
    [Event.bus (addressCommand s (programOpcode s) (currentLines s) off), Event.bus (.transmit data),
      Event.bus (readyPoll s s.profile.programTimeoutMs)]

/-- The chunks that the splitter makes of `[off, off + size)`: every maximal piece inside one page, in ascending
order (41 R152). Each is (offset, length). -/
def pageChunks (page off size : Nat) : List (Nat × Nat) :=
  if size = 0 then []
  else (List.range ((off % page + size + page - 1) / page)).map fun j =>
    let lo := max off ((off / page + j) * page)
    (lo, min (off + size) ((off / page + j + 1) * page) - lo)

/-- The outputs of one chunk, (offset, length), of a `WRITE` (41 R150, R151). -/
def chunkOutputs (s : State) (off buffer : Nat) (data : List Byte) (c : Nat × Nat) : List Event :=
  programChunkOutputs s c.1 (buffer + (c.1 - off)) ((data.drop (c.1 - off)).take c.2)

/-- `WRITE` after its `DisableMemoryMap`: one `ProgramChunk` for each chunk (41 R151). -/
def writeOutputs (s : State) (off buffer : Nat) (data : List Byte) : List Event :=
  (pageChunks s.profile.pageSizeBytes off data.length).flatMap (chunkOutputs s off buffer data)

/-- The sectors that touch `[start, stop]`, ascending: the multiples of the sector size from `start` rounded down to
`stop` (43 R193). -/
def touchedSectors (sector start stop : Nat) : List Nat :=
  (List.range (stop / sector + 1 - start / sector)).map fun k => (start / sector + k) * sector

/-- `SECTOR_ERASE` after its `DisableMemoryMap`: one `EraseSector` for each sector (43 R191). -/
def sectorEraseOutputs (s : State) (start stop : Nat) : List Event :=
  (touchedSectors s.profile.sectorSizeBytes start stop).flatMap (eraseSectorOutputs s)

/-- The aligned words that meet `[start, start + size)`, read in ascending order; none for size 0 (42 R170, R177). -/
def wordReads (start size : Nat) : List Event :=
  if size = 0 then []
  else (List.range ((start % 4 + size + 3) / 4)).map fun j => Event.memRead (start - start % 4 + 4 * j) 4

/-- The sum of the bytes of `[start, start + size)` modulo 2^32, from a seed (42 R175). -/
def byteSum (m : Nat → Byte) (start size : Nat) (seed : Word) : Word :=
  (List.range size).foldl (fun acc i => acc + (m (start + i)).setWidth 32) seed

/-- The byte pairs that `VERIFY` compares, flash byte first (42 R177). -/
def pairReads (flash ram n : Nat) : List Event :=
  (List.range n).flatMap fun k => [Event.memRead (flash + k) 1, Event.memRead (ram + k) 1]

/-- Is an output a transaction? -/
def isBusEvent : Event → Bool
  | .bus _ => true
  | .memRead _ _ => false

/-! ### Encodings -/

/-- The bits of the latched words that a command uses; every other bit is cleared (30 R90, R93, R99). -/
def usedBits (i : Instr) (w : CommandWords) : CommandWords :=
  let cmd := w.cmd &&& 0xFF
  match i with
  | .write _ _ _ => ⟨cmd, w.a0, w.a1, w.a2, 0⟩
  | .sectorErase _ _ => ⟨cmd, w.a0, w.a1, 0, 0⟩
  | .massErase _ => ⟨cmd, w.a0, 0, 0, 0⟩
  | .checksum _ _ _ => ⟨cmd, w.a0, w.a1, w.a2, 0⟩
  | .verify _ _ _ _ _ => ⟨cmd, w.a0, w.a1, w.a2, w.a3 &&& 0x000F000F⟩
  | .pollReady _ => ⟨cmd, w.a0, 0, 0, 0⟩
  | .eraseSector _ => ⟨cmd, w.a0, 0, 0, 0⟩
  | .init | .reset | .writeEnable | .configure | .eraseChip | .mmapEnable | .mmapDisable => ⟨cmd, 0, 0, 0, 0⟩

/-! ### Admission, as the table of 40 R120 lists it -/

/-- The commands admitted in `Reset` (60 R215). -/
def admittedInReset : Instr → Bool
  | .init | .reset | .pollReady _ | .configure => true
  | .write _ _ _ | .sectorErase _ _ | .massErase _ | .checksum _ _ _ | .verify _ _ _ _ _ | .writeEnable
  | .eraseSector _ | .eraseChip | .mmapEnable | .mmapDisable => false

/-- The commands that raise `ModeConflict` in `MemoryMapped` (60 R214). -/
def conflictsWhenMapped : Instr → Bool
  | .reset | .pollReady _ | .configure | .writeEnable | .eraseSector _ | .eraseChip => true
  | .init | .write _ _ _ | .sectorErase _ _ | .massErase _ | .checksum _ _ _ | .verify _ _ _ _ _
  | .mmapEnable | .mmapDisable => false

/-- Is a command admitted in a resting state? -/
def admittedIn (i : Instr) (c : ChipState) : Bool :=
  match c with
  | .uninitialized => decide (i = .init)
  | .reset => admittedInReset i
  | .configured | .idle => true
  | .memoryMapped => !conflictsWhenMapped i
  | .erasing | .programming => false

/-- The operands of a command are outside the ranges of 60 R213, as that rule lists them. -/
def operandsOutOfRange (s : State) : Instr → Prop
  | .write a n b =>
    b.toNat + n.toNat > 2 ^ 32 ∨
      (s.platform.enforceRange = true ∧ (a &&& s.platform.addrMask).toNat + n.toNat > s.profile.flashSizeBytes)
  | .sectorErase a e =>
    s.platform.enforceRange = true ∧
      ((a &&& s.platform.addrMask).toNat ≥ s.profile.flashSizeBytes ∨
        (e &&& s.platform.addrMask).toNat ≥ s.profile.flashSizeBytes)
  | .eraseSector a => s.platform.enforceRange = true ∧ a.toNat ≥ s.profile.flashSizeBytes
  | .checksum a n _ => a.toNat + n.toNat > 2 ^ 32
  | .verify f r n h t =>
    4 * n.toNat ≥ 2 ^ 32 ∨ t.toNat > 4 * n.toNat ∨ f.toNat + 4 * n.toNat > 2 ^ 32 ∨ r.toNat + 4 * n.toNat > 2 ^ 32 ∨
      f.toNat + h.toNat + 4 * n.toNat - t.toNat > 2 ^ 32
  | .init | .massErase _ | .reset | .writeEnable | .pollReady _ | .configure | .eraseChip | .mmapEnable
  | .mmapDisable => False

/-- `chipState` after a command that ended with `return`, by the table of 40 R129. -/
def endState (i : Instr) (before : ChipState) : ChipState :=
  match i with
  | .init | .checksum _ _ _ | .verify _ _ _ _ _ | .mmapEnable => .memoryMapped
  | .reset => .reset
  | .configure => .configured
  | .pollReady _ => if before = .reset then .reset else .idle
  | .write _ _ _ | .sectorErase _ _ | .massErase _ | .writeEnable | .eraseSector _ | .eraseChip | .mmapDisable => .idle

/-! ### The chunk sequence -/

/-- The laws of 41 R152 for the chunks, each (offset, length), of a write of `size` bytes at `off`. -/
def IsPageSplit (page off size : Nat) (cs : List (Nat × Nat)) : Prop :=
  (∀ c ∈ cs, 1 ≤ c.2 ∧ c.1 % page + c.2 ≤ page) ∧
  (cs.map Prod.snd).sum = size ∧
  (∀ j c, cs[j]? = some c → c.1 = off + ((cs.take j).map Prod.snd).sum) ∧
  (∀ j c, cs[j]? = some c → 1 ≤ j → c.1 % page = 0) ∧
  (∀ j c, cs[j]? = some c → 1 ≤ j → j + 1 < cs.length → c.2 = page) ∧
  cs.length = (if size = 0 then 0 else (off % page + size + page - 1) / page)

/-! ### The reference device -/

/-- The opcodes that `WRITE` and the erase commands send stand for one row each of 20 R74 (log 11). -/
def opcodesApart (p : DeviceProfile) : Prop :=
  p.opEraseSector ≠ p.opWriteEnable ∧ p.opEraseSector4B ≠ p.opWriteEnable ∧
  p.opEraseChip ≠ p.opWriteEnable ∧ p.opEraseChip ≠ p.opEraseSector ∧ p.opEraseChip ≠ p.opEraseSector4B ∧
  (∀ op, op = p.opPageProgram ∨ op = p.opPageProgram4B →
    op ≠ p.opWriteEnable ∧ op ≠ p.opEraseSector ∧ op ≠ p.opEraseSector4B ∧ op ≠ p.opEraseChip)

/-- The collaborator is the reference device, not busy, and no failure is injected (20 R72, R77). -/
def ReferenceReady (s : State) : Prop :=
  s.collab = .reference ∧ s.forced = [] ∧ s.dev.sr.getLsbD 0 = false ∧ opcodesApart s.profile

end Sys2Proof.Machine
end

