-- ==== Sys2Proof/Certificates/Slice0/Obligations.lean ====
section
/-! DEFINITION. The statements for the provers, from the numbered rules of spec/. OBLIGATIONS.json lists them. A
statement about a run with an `Ok` oracle holds whatever bytes the oracle's answers bring. -/

open Sys2Proof Sys2Proof.Machine

/-! ## Encodings, records and views -/

/-- Four words written out from the table of 30 R91 decode to their commands. -/
def Obligations.SampleWordsDecode : Prop :=
  decode ⟨0x00000001, 0, 0, 0, 0⟩ = .ok .init ∧
  decode ⟨0x00000002, 0x900000FA, 20, 0x20000000, 0⟩ = .ok (.write 0x900000FA 20 0x20000000) ∧
  decode ⟨0x00000006, 0x900000FA, 0x20000000, 5, 0x00010002⟩ = .ok (.verify 0x900000FA 0x20000000 5 2 1) ∧
  decode ⟨0xABCDEF17, 1, 2, 3, 4⟩ = .ok .mmapDisable

/-- Decoding and encoding agree, both ways: the encoding of every command decodes to it, and a word decodes to a
command exactly when the bits that the command uses are the bits of its encoding (30 R90 to R93). -/
def Obligations.DecodeEncodeAgree : Prop :=
  (∀ i : Instr, decode (encode i) = .ok i) ∧
  ∀ (w : CommandWords) (i : Instr), decode w = .ok i ↔ usedBits i w = encode i

/-- The decoder rejects exactly the codes `0x00`, `0x07..0x0F`, `0x18..0xFF`, and names the code (30 R99). -/
def Obligations.IllegalCodesRejected : Prop :=
  ∀ w : CommandWords,
    let c := w.cmd.toNat % 256
    (c = 0 ∨ (0x07 ≤ c ∧ c ≤ 0x0F) ∨ 0x18 ≤ c) ↔ decode w = .error (.illegalCommand (BitVec.ofNat 8 c))

/-- Every field of `STATUS` stands at the bits of the table of 10 R24 with the numeric codes of 10 R24 and R25 and of
60 R210, and the reserved bits read 0. -/
def Obligations.StatusFieldPlaces : Prop :=
  ∀ s : State,
    (statusWord s).getLsbD 0 = s.busy ∧ (statusWord s).getLsbD 1 = s.done ∧ (statusWord s).getLsbD 2 = s.mismatch ∧
    (statusWord s).extractLsb' 4 3 =
      (match s.err with
        | .noError => 0 | .busError => 1 | .timeout => 2 | .invalidRange => 3 | .modeConflict => 4
        | .notInitialized => 5 | .illegalCommand => 6) ∧
    (statusWord s).extractLsb' 8 3 =
      (match s.chipState with
        | .uninitialized => 0 | .reset => 1 | .configured => 2 | .idle => 3 | .erasing => 4 | .programming => 5
        | .memoryMapped => 6) ∧
    (statusWord s).extractLsb' 12 2 = (match s.iface.mode with | .single => 0 | .quad => 1 | .octal => 2) ∧
    (statusWord s).extractLsb' 14 1 = (match s.iface.rate with | .normal => 0 | .double => 1) ∧
    (statusWord s).extractLsb' 15 1 = (match s.iface.addrw with | .w24 => 0 | .w32 => 1) ∧
    (statusWord s).getLsbD 3 = false ∧ (statusWord s).getLsbD 7 = false ∧ (statusWord s).getLsbD 11 = false ∧
    (statusWord s).extractLsb' 16 16 = 0

/-- The two polls carry the fields of 30 R98. -/
def Obligations.PollRecords : Prop :=
  ∀ (s : State) (t : Word),
    welPoll s = .pollRegister ⟨s.profile.opReadStatus, 0x02, 0x02, 0x10, s.platform.defaultTimeoutMs, linesOf s.iface.mode,
      s.iface.rate, linesOf s.iface.mode⟩ ∧
    readyPoll s t = .pollRegister ⟨s.profile.opReadStatus, 0x01, 0x00, 0x10, t, linesOf s.iface.mode, s.iface.rate,
      linesOf s.iface.mode⟩

/-- The records of every step as the codes of 30 R95, the variants of 30 R96 and the rounds of 40 R121: the lines, rate
and width codes `L`, `R`, `W` of `InterfaceState`; commands without and with an address phase; the commands of a reset
round; polls; the memory-mapping record. -/
def Obligations.RecordsOfEveryStep : Prop :=
  ∀ s : State,
    let L : BitVec 2 := match s.iface.mode with | .single => 1 | .quad => 2 | .octal => 3
    let R : BitVec 1 := match s.iface.rate with | .normal => 0 | .double => 1
    let W : BitVec 1 := match s.iface.addrw with | .w24 => 0 | .w32 => 1
    (linesCode .absent = 0 ∧ linesCode .l1 = 1 ∧ linesCode .l4 = 2 ∧ linesCode .l8 = 3 ∧
      linesCode (currentLines s) = L) ∧
    (∀ (op : Byte) (data : Lines), ∃ c, plainCommand s op data = .sendCommand c ∧
      sendCommandCodes c = (op, L, R, 0b000, linesCode data, 0, 0)) ∧
    (∀ (op : Byte) (data : Lines) (offset : Nat), ∃ c, addressCommand s op data offset = .sendCommand c ∧
      sendCommandCodes c = (op, L, R, L ++ W, linesCode data,
        BitVec.ofNat 32 (match s.iface.addrw with | .w24 => offset % 0x1000000 | .w32 => offset % 0x100000000), 0)) ∧
    (∀ (op : Byte) (round : Lines), ∃ c, resetCommand op round = .sendCommand c ∧
      sendCommandCodes c = (op, linesCode round, 0, 0b000, 0, 0, 0)) ∧
    (resetRounds s).map linesCode = (if s.profile.multiLineReset then [1, 2, 3] else [1]) ∧
    (∃ q, welPoll s = .pollRegister q ∧
      pollRegisterCodes q = (s.profile.opReadStatus, 0x02, 0x02, 0x10, s.platform.defaultTimeoutMs, L, R, L)) ∧
    (∀ t : Word, ∃ q, readyPoll s t = .pollRegister q ∧
      pollRegisterCodes q = (s.profile.opReadStatus, 0x01, 0x00, 0x10, t, L, R, L)) ∧
    (∃ m, mapCommand s = .enableMemoryMap m ∧
      mapCommandCodes m =
        ((match s.iface.mode with
          | .single => s.profile.opFastRead.single
          | .quad => s.profile.opFastRead.quad
          | .octal => s.profile.opFastRead.octal),
        (match s.iface.mode with
          | .single => s.profile.dummyCycles.single
          | .quad => s.profile.dummyCycles.quad
          | .octal => s.profile.dummyCycles.octal), L, R, W)) ∧
    eraseOpcode s = (match s.iface.addrw with | .w24 => s.profile.opEraseSector | .w32 => s.profile.opEraseSector4B) ∧
    programOpcode s = (match s.iface.addrw with | .w24 => s.profile.opPageProgram | .w32 => s.profile.opPageProgram4B)

/-- The address field of a command with an address phase is `offset mod 2^IF.addrw`, zero-extended, and its address
mode is `(L(lines(IF.mode)), IF.addrw)` (30 R97). -/
def Obligations.AddressFieldAssembly : Prop :=
  ∀ (s : State) (op : Byte) (data : Lines) (offset : Nat),
    ∃ c, addressCommand s op data offset = .sendCommand c ∧
      c.address.toNat = (match s.iface.addrw with | .w24 => offset % 2 ^ 24 | .w32 => offset % 2 ^ 32) ∧
      c.addressMode = ⟨linesOf s.iface.mode, s.iface.addrw⟩

/-- A word is read little-endian from the four bytes at its address (20 R51). -/
def Obligations.WordsAreLittleEndian : Prop :=
  ∀ (s : State) (a : Nat) (b0 b1 b2 b3 : Byte),
    memByte s a = .ok b0 → memByte s (a + 1) = .ok b1 → memByte s (a + 2) = .ok b2 → memByte s (a + 3) = .ok b3 →
    ∃ w, memWord s a = .ok w ∧
      w.toNat = b0.toNat + 2 ^ 8 * b1.toNat + 2 ^ 16 * b2.toNat + 2 ^ 24 * b3.toNat

/-! ## Reset, and the two ends of a command -/

/-- After hardware reset all eight host registers read 0, the flags are 0, `chipState` is `Uninitialized`,
`InterfaceState` is (single, normal, 24), no transient value exists, and the block waits for the host (10 R34). -/
def Obligations.ResetState : Prop :=
  (∀ off ∈ [0x00, 0x04, 0x08, 0x0C, 0x10, 0x14, 0x18, 0x1C], readRegisterPort off State.reset = some 0) ∧
  State.reset.chipState = .uninitialized ∧ State.reset.iface = ⟨.single, .normal, .w24⟩ ∧
  State.reset.busy = false ∧ State.reset.done = false ∧ State.reset.mismatch = false ∧ State.reset.err = .noError ∧
  State.reset.eraseRange = none ∧ State.reset.writeCursor = none ∧ State.reset.checksumAcc = none ∧
  step State.reset = .next State.reset

/-- A hardware reset in any state, a running command included, puts the block's registers at their reset values and
issues no transaction; the parameters, the ports, memory, the bus and the device stay as they are (70 R240, R241). That
the bus and the device of an abandoned command stay as they stand in State, where R241 calls them indeterminate, is the
model's choice (log 19). What the unspecified `P` becomes is not stated (log 2). -/
def Obligations.HardwareResetMove : Prop :=
  ∀ (s : State) (rest : List HostMove), s.moves = .hardwareReset :: rest →
    ∃ t, step s = .next t ∧
      (∀ off ∈ [0x00, 0x04, 0x08, 0x0C, 0x10, 0x14, 0x18, 0x1C], readRegisterPort off t = some 0) ∧
      t.busy = false ∧ t.done = false ∧ t.mismatch = false ∧ t.err = .noError ∧
      t.chipState = .uninitialized ∧ t.iface = ⟨.single, .normal, .w24⟩ ∧
      t.eraseRange = none ∧ t.writeCursor = none ∧ t.checksumAcc = none ∧
      t.trace = s.trace ∧ t.txCount = s.txCount ∧ t.mapped = s.mapped ∧ t.dev = s.dev ∧ t.ram = s.ram ∧
      t.platform = s.platform ∧ t.profileIn = s.profileIn ∧ t.collab = s.collab ∧ t.forced = s.forced ∧
      t.hostData = s.hostData ∧ t.moves = rest

/-- `return v` and `raise k` write exactly what 00 R9 and 60 R218 say, end the transient values (10 R28 to R30), and
keep everything else: each is the old state but for the fields listed. -/
def Obligations.ReturnAndRaise : Prop :=
  ∀ (s : State) (v : DWord) (k : ErrKind),
    (resultWord (complete v s) = v ∧
      complete v s =
        { s with
          resLo := BitVec.ofNat 32 (v.toNat % 2 ^ 32), resHi := BitVec.ofNat 32 (v.toNat / 2 ^ 32), err := .noError,
          busy := false, done := true, eraseRange := none, writeCursor := none, checksumAcc := none }) ∧
    (resultWord (raise k s) = 0 ∧
      raise k s =
        { s with
          resLo := 0, resHi := 0, err := k, mismatch := false,
          chipState := (if k = .busError ∨ k = .timeout then .uninitialized else s.chipState),
          busy := false, done := true, eraseRange := none, writeCursor := none, checksumAcc := none })

/-! ## Steps and the host port -/

/-- A `CMD` write that the block accepts runs the decoded command: `step` is `exec` on the accepted state, in which the
code is latched, `BUSY` is 1, `DONE`, `MISMATCH`, `ERR` and `RES` are clear and the host's move is taken off
(10 R23). -/
def Obligations.StepRunsDecodedCommand : Prop :=
  ∀ (s : State) (v : Word) (rest : List HostMove) (i : Instr),
    s.moves = .write 0x00 4 v :: rest → s.busy = false →
    decode ⟨v, s.arg0, s.arg1, s.arg2, s.arg3⟩ = .ok i →
    step s = exec i
      { s with moves := rest, cmd := v.setWidth 8, busy := true, done := false, mismatch := false, err := .noError, resLo := 0,
               resHi := 0 }

/-- A `CMD` write with an illegal code ends at once in `IllegalCommand`, in every `chipState`: no transaction, no
`MemRead`, `chipState` unchanged (30 R99, 60 R216). -/
def Obligations.IllegalCommandRaised : Prop :=
  ∀ (s : State) (v : Word) (rest : List HostMove),
    s.moves = .write 0x00 4 v :: rest → s.busy = false →
    (v.toNat % 256 = 0 ∨ (0x07 ≤ v.toNat % 256 ∧ v.toNat % 256 ≤ 0x0F) ∨ 0x18 ≤ v.toNat % 256) →
    ∃ t, step s = .next t ∧ t.err = .illegalCommand ∧ resultWord t = 0 ∧ t.done = true ∧ t.busy = false ∧
      t.mismatch = false ∧ t.chipState = s.chipState ∧ t.trace = s.trace ∧ t.txCount = s.txCount ∧
      t.iface = s.iface ∧ t.profile = s.profile ∧ t.ram = s.ram ∧ t.dev = s.dev ∧ t.mapped = s.mapped

/-- While `BUSY = 1` no host move but a hardware reset changes the block's registers, its argument registers or its
outputs (10 R21, R23; 70 R251). That a state with `BUSY = 1` waits for a transaction that is never answered, so that no
step ends the command (70 R254), is the model's choice (log 1, log 14). -/
def Obligations.BusyBlockIgnoresHost : Prop :=
  ∀ s t : State, s.busy = true → step s = .next t → s.moves.head? ≠ some .hardwareReset →
    t = { s with moves := t.moves, hostData := t.hostData, ram := t.ram, profileIn := t.profileIn }

/-- Register port writes: an idle block takes an argument register, a write to `CMD` or an argument register while
`BUSY = 1` is ignored, the read-only registers keep their values, and another width or offset is refused (10 R21, R23;
20 R56; 70 R251). That a write to a read-only register is ignored rather than
refused is the model's reading (log 12). -/
def Obligations.RegisterPortWrites : Prop :=
  ∀ (s : State) (off width : Nat) (v : Word) (rest : List HostMove), s.moves = .write off width v :: rest →
    (width ≠ 4 ∨ off ∉ [0x00, 0x04, 0x08, 0x0C, 0x10, 0x14, 0x18, 0x1C] → step s = .refused (.hostAccess off width)) ∧
    (width = 4 → off = 0x04 → s.busy = false → step s = .next { s with moves := rest, arg0 := v }) ∧
    (width = 4 → off = 0x08 → s.busy = false → step s = .next { s with moves := rest, arg1 := v }) ∧
    (width = 4 → off = 0x0C → s.busy = false → step s = .next { s with moves := rest, arg2 := v }) ∧
    (width = 4 → off = 0x10 → s.busy = false → step s = .next { s with moves := rest, arg3 := v }) ∧
    (width = 4 → off ∈ [0x00, 0x04, 0x08, 0x0C, 0x10] → s.busy = true → step s = .next { s with moves := rest }) ∧
    (width = 4 → off ∈ [0x14, 0x18, 0x1C] → step s = .next { s with moves := rest })

/-- Register port reads return the register and change nothing else; `RES` reads 0 while `BUSY`; another width or
offset is refused (10 R22, 20 R56). `WAIT` reads `STATUS` and is over when `DONE = 1` (30 R100).
That the upper bits of `CMD` read 0 is the model's reading (log 20). -/
def Obligations.RegisterPortReads : Prop :=
  ∀ (s : State) (rest : List HostMove),
    (∀ off : Nat, s.moves = .read off 4 :: rest → off ∈ [0x00, 0x04, 0x08, 0x0C, 0x10, 0x14, 0x18, 0x1C] →
      ∃ v, step s = .next { s with moves := rest, hostData := v } ∧
        (off = 0x00 → v.toNat = s.cmd.toNat) ∧ (off = 0x04 → v = s.arg0) ∧ (off = 0x08 → v = s.arg1) ∧
        (off = 0x0C → v = s.arg2) ∧ (off = 0x10 → v = s.arg3) ∧
        (off = 0x14 → s.busy = false → v = s.resLo) ∧ (off = 0x18 → s.busy = false → v = s.resHi) ∧
        (off = 0x14 ∨ off = 0x18 → s.busy = true → v = 0) ∧ (off = 0x1C → v = statusWord s)) ∧
    (∀ off width : Nat, s.moves = .read off width :: rest →
      width ≠ 4 ∨ off ∉ [0x00, 0x04, 0x08, 0x0C, 0x10, 0x14, 0x18, 0x1C] →
      step s = .refused (.hostAccess off width)) ∧
    (s.moves = .waitDone :: rest →
      (s.done = true → step s = .next { s with moves := rest, hostData := statusWord s }) ∧
      (s.done = false → step s = .next { s with hostData := statusWord s }))

/-- A byte that the host stores into RAM is the byte that a `MemRead` of its address answers; every other address
reads as before, and no register changes (20 R59, R71). Elsewhere the store stops, which is the model's choice: in the
window and in a buffer that the running command reads it is refused (log 17), where no region backs the address it
faults (log 7). The buffers are those of 20 R70 (a): the source of `WRITE`, the range of `CHECKSUM`, the reference of
`VERIFY`. -/
def Obligations.StoredBytesAreRead : Prop :=
  ∀ (s : State) (addr : Word) (b : Byte) (rest : List HostMove), s.moves = .store addr b :: rest →
    (inWindow s addr.toNat = false → inRam s addr.toNat = true → inBusyBuffer s addr.toNat = false →
      ∃ t, step s = .next t ∧ memByte t addr.toNat = .ok b ∧ (∀ a, a ≠ addr.toNat → memByte t a = memByte s a) ∧
        t = { s with moves := rest, ram := t.ram }) ∧
    (inWindow s addr.toNat = true → step s = .refused (.storeIntoWindow addr.toNat)) ∧
    (inWindow s addr.toNat = false → inRam s addr.toNat = false → step s = .fault (.unbackedStore addr.toNat)) ∧
    (inWindow s addr.toNat = false → inRam s addr.toNat = true → inBusyBuffer s addr.toNat = true →
      step s = .refused (.storeIntoBusyBuffer addr.toNat)) ∧
    (inBusyBuffer s addr.toNat = true ↔ s.busy = true ∧
      (s.cmd = 0x02 ∧ s.arg2.toNat ≤ addr.toNat ∧ addr.toNat < s.arg2.toNat + s.arg1.toNat ∨
        s.cmd = 0x05 ∧ s.arg0.toNat ≤ addr.toNat ∧ addr.toNat < s.arg0.toNat + s.arg1.toNat ∨
        s.cmd = 0x06 ∧ s.arg1.toNat ≤ addr.toNat ∧ addr.toNat < s.arg1.toNat + 4 * s.arg2.toNat))

/-- Driving a legal profile on `profileIn` leaves the latched profile and every register as they are; an illegal one is
refused (10 R27, 20 R69). -/
def Obligations.ProfilePortHasNoEffectUntilInit : Prop :=
  ∀ (s : State) (p : DeviceProfile) (rest : List HostMove), s.moves = .driveProfile p :: rest →
    (p.legal = true → step s = .next { s with moves := rest, profileIn := p }) ∧
    (p.legal = false → step s = .refused .illegalProfile)

/-! ## The invariant -/

/-- The invariant holds after hardware reset. -/
def Obligations.InvariantAtReset : Prop := Inv State.reset

/-- Every step keeps the invariant. -/
def Obligations.StepKeepsInvariant : Prop := ∀ s t : State, Inv s → step s = .next t → Inv t

/-! ## What a command cannot change -/

/-- The frame of every command: the code, the argument registers, the parameters and ports, every byte of `SYS` and
the host's moves are unchanged, and the trace only grows (10 R21, 20 R57). -/
def Obligations.CommandsNeverWriteArgumentsOrMemory : Prop :=
  ∀ (i : Instr) (s t : State), exec i s = .next t →
    t.cmd = s.cmd ∧ t.arg0 = s.arg0 ∧ t.arg1 = s.arg1 ∧ t.arg2 = s.arg2 ∧ t.arg3 = s.arg3 ∧
    t.platform = s.platform ∧ t.profileIn = s.profileIn ∧ t.collab = s.collab ∧ t.forced = s.forced ∧
    t.moves = s.moves ∧ t.hostData = s.hostData ∧
    (∀ a, memFind t.ram a = memFind s.ram a) ∧ t.ram = s.ram ∧
    ∃ es : List Event, t.trace = es ++ s.trace ∧ t.txCount = s.txCount + (es.filter isBusEvent).length

/-- Only `INIT` writes the latched profile, and an `INIT` that runs latches `profileIn`, failed or not (43 R190); only
`INIT`, `RESET` and `CONFIGURE` write `InterfaceState` (10 R26, R27). -/
def Obligations.OwnersOfProfileAndInterface : Prop :=
  ∀ (i : Instr) (s t : State), exec i s = .next t →
    (i ≠ .init → t.profile = s.profile) ∧ (i = .init → t.profile = s.profileIn) ∧
    (i ≠ .init → i ≠ .reset → i ≠ .configure → t.iface = s.iface)

/-- `CHECKSUM` and `VERIFY` change neither the flash, nor `InterfaceState`, nor `P`, nor RAM, and issue at most one
transaction; `MISMATCH` is set by `VERIFY` alone (42 R179, 10 R31). -/
def Obligations.ReadingCommandsChangeNoMemory : Prop :=
  ∀ (i : Instr) (s t : State), exec i s = .next t →
    (∀ a n v, i = .checksum a n v →
      t.dev.flash = s.dev.flash ∧ t.iface = s.iface ∧ t.profile = s.profile ∧ t.ram = s.ram ∧ t.txCount ≤ s.txCount + 1) ∧
    (∀ f r n h e, i = .verify f r n h e →
      t.dev.flash = s.dev.flash ∧ t.iface = s.iface ∧ t.profile = s.profile ∧ t.ram = s.ram ∧ t.txCount ≤ s.txCount + 1) ∧
    (s.mismatch = false → (∀ f r n h e, i ≠ .verify f r n h e) → t.mismatch = false)

/-- `CHECKSUM`, `VERIFY` and `MMAP_ENABLE` accepted in `MemoryMapped` issue no transaction, so neither `BusError` nor
`Timeout` can end them (60 R211). -/
def Obligations.NoTransactionWhenMapped : Prop :=
  ∀ (s t : State), s.chipState = .memoryMapped →
    ((∃ a n v, exec (.checksum a n v) s = .next t) ∨ (∃ f r n h e, exec (.verify f r n h e) s = .next t) ∨
      exec .mmapEnable s = .next t) →
    t.txCount = s.txCount ∧ t.chipState = .memoryMapped ∧ t.err ≠ .busError ∧ t.err ≠ .timeout ∧ t.done = true

/-! ## Admission, errors and aborts -/

/-- `NotInitialized`: any command but `INIT` in `Uninitialized`, any but `INIT`, `RESET`, `POLL_READY`, `CONFIGURE` in
`Reset` (60 R215); nothing else raises it. The abort is precise: `RES`, `ERR`, `MISMATCH`, `BUSY`, `DONE` and nothing else (60 R218). -/
def Obligations.NotInitializedRaised : Prop :=
  ∀ (i : Instr) (s : State),
    (s.chipState = .uninitialized → i ≠ .init → exec i s = .next (raise .notInitialized s)) ∧
    (s.chipState = .reset → admittedInReset i = false → exec i s = .next (raise .notInitialized s)) ∧
    (∀ t, exec i s = .next t → s.err ≠ .notInitialized → t.err = .notInitialized →
      s.chipState = .uninitialized ∧ i ≠ .init ∨ s.chipState = .reset ∧ admittedInReset i = false)

/-- `ModeConflict`: `RESET`, `POLL_READY`, `CONFIGURE`, `WRITE_ENABLE`, `ERASE_SECTOR`, `ERASE_CHIP` in `MemoryMapped`;
no other command ever raises it (60 R214). -/
def Obligations.ModeConflictRaised : Prop :=
  ∀ (i : Instr) (s : State),
    (s.chipState = .memoryMapped → conflictsWhenMapped i = true → exec i s = .next (raise .modeConflict s)) ∧
    (∀ t, exec i s = .next t → s.err ≠ .modeConflict → t.err = .modeConflict →
      s.chipState = .memoryMapped ∧ conflictsWhenMapped i = true)

/-- `InvalidRange`: an admitted command raises it exactly when its operands are outside the ranges of 60 R213, before
any transaction or `MemRead`. -/
def Obligations.InvalidRangeRaised : Prop :=
  ∀ (i : Instr) (s : State), admittedIn i s.chipState = true →
    (operandsOutOfRange s i → exec i s = .next (raise .invalidRange s)) ∧
    (∀ t, exec i s = .next t → s.err ≠ .invalidRange → t.err = .invalidRange → operandsOutOfRange s i)

/-- The four precise kinds change nothing but `RES`, `ERR`, `MISMATCH`, `BUSY`, `DONE` of an accepted command
(60 R218, R225): "nothing was sent; state as before". -/
def Obligations.PreciseAborts : Prop :=
  ∀ (i : Instr) (s t : State), s.err = .noError → s.eraseRange = none → s.writeCursor = none → s.checksumAcc = none →
    exec i s = .next t → t.err ≠ .noError → isBusKind t.err = false →
    t = { s with resLo := 0, resHi := 0, err := t.err, mismatch := false, busy := false, done := true }

/-- The first transaction that does not answer `Ok` is the command's last: after a failure the command has ended with
that kind, `RES = 0` and `Uninitialized`; if it is never answered, the command is still running. A command that ended
with another kind, or with `return`, saw only `Ok` (40 R130; 60 R211, R212, R217; 70 R254). -/
def Obligations.FirstFailureEndsCommand : Prop :=
  ∀ (i : Instr) (s t : State), s.collab ≠ .reference → s.busy = true → s.done = false → s.err = .noError →
    exec i s = .next t →
    (∀ n, s.txCount ≤ n → n + 1 < t.txCount → ∃ rx, oracleAnswer s n = .ok rx) ∧
    (∀ k, s.txCount < t.txCount → oracleAnswer s (t.txCount - 1) = .fail k →
      t.err = (match k with | .busError => .busError | .timeout => .timeout) ∧ t.done = true ∧ t.busy = false ∧ resultWord t = 0 ∧ t.chipState = .uninitialized) ∧
    (s.txCount < t.txCount → oracleAnswer s (t.txCount - 1) = .never →
      t.busy = true ∧ t.done = false ∧ t.err = .noError) ∧
    (t.done = true → isBusKind t.err = false → ∀ n, s.txCount ≤ n → n < t.txCount → ∃ rx, oracleAnswer s n = .ok rx)

/-- `chipState` at the end of a command, by the table of 40 R129: the command's own end state after `return`,
`Uninitialized` after `BusError` and `Timeout`, unchanged after the other kinds. -/
def Obligations.TransitionsAtCommandEnd : Prop :=
  ∀ (i : Instr) (s t : State), s.done = false → exec i s = .next t → t.done = true →
    t.busy = false ∧
    (t.err = .noError → admittedIn i s.chipState = true ∧ t.chipState = endState i s.chipState) ∧
    (t.err = .busError ∨ t.err = .timeout → t.chipState = .uninitialized) ∧
    (t.err ≠ .noError → isBusKind t.err = false → t.chipState = s.chipState)

/-! ## Commands that wait for ever

`NeverAnswers s k` says that the `k`-th transaction from `s` on is the first without an answer. -/

/-- An erase that waits: `Erasing` from the erase opcode to the end of its poll, the state before it until then (the
transient rows of 40 R129); what was issued is the prefix of the command's outputs (70 R254). In `SECTOR_ERASE` the
`EraseRange` holds the range and the sector in work (10 R28). -/
def Obligations.EraseWaits : Prop :=
  let erasingFrom := fun (r : Nat) (before : ChipState) => if r < 2 then before else ChipState.erasing
  (∀ (s : State) (addr : Word) (k : Nat), s.chipState = .configured ∨ s.chipState = .idle → NeverAnswers s k → k < 4 →
    ¬ operandsOutOfRange s (.eraseSector addr) →
    exec (.eraseSector addr) s = .next (setChip (erasingFrom k s.chipState)
      (afterEvents ((eraseSectorOutputs s addr.toNat).take (k + 1)) s))) ∧
  (∀ (s : State) (k : Nat), s.chipState = .configured ∨ s.chipState = .idle → NeverAnswers s k → k < 4 →
    exec .eraseChip s = .next (setChip (erasingFrom k s.chipState)
      (afterEvents ((eraseChipOutputs s).take (k + 1)) s))) ∧
  (∀ (s : State) (parallelism : Word) (r : Nat),
    s.chipState = .configured ∨ s.chipState = .idle ∨ s.chipState = .memoryMapped → NeverAnswers s (1 + r) → r < 4 →
    exec (.massErase parallelism) s = .next (setChip (erasingFrom r .idle)
      (afterEvents (.bus .disableMemoryMap :: (eraseChipOutputs s).take (r + 1)) s))) ∧
  (∀ (s : State) (a e : Word) (j r sector : Nat),
    s.chipState = .configured ∨ s.chipState = .idle ∨ s.chipState = .memoryMapped →
    NeverAnswers s (1 + 4 * j + r) → r < 4 → 0 < s.profile.sectorSizeBytes →
    ¬ operandsOutOfRange s (.sectorErase a e) →
    let sectors := touchedSectors s.profile.sectorSizeBytes (toOffset s a) (toOffset s e)
    sectors[j]? = some sector →
    exec (.sectorErase a e) s = .next (setEraseRange ⟨toOffset s a, toOffset s e, sector⟩
      (setChip (erasingFrom r .idle) (afterEvents (.bus .disableMemoryMap ::
        ((sectors.take j).flatMap (eraseSectorOutputs s) ++ (eraseSectorOutputs s sector).take (r + 1))) s))))

/-- A `WRITE` that waits in chunk `j`: `Programming` from the program opcode to the end of its poll, `Idle` before (the
transient rows of 40 R129); the `WriteCursor` holds that chunk's address, the bytes that remain and the buffer offset
(10 R29); what was issued is the prefix of the command's outputs (70 R254). -/
def Obligations.WriteWaits : Prop :=
  ∀ (s : State) (address size buffer : Word) (data : List Byte) (j r : Nat) (c : Nat × Nat),
    s.chipState = .configured ∨ s.chipState = .idle ∨ s.chipState = .memoryMapped →
    NeverAnswers s (1 + 5 * j + r) → r < 5 → 0 < s.profile.pageSizeBytes →
    ¬ operandsOutOfRange s (.write address size buffer) → data.length = size.toNat → RamHolds s buffer.toNat data →
    let off := toOffset s address
    let chunks := pageChunks s.profile.pageSizeBytes off size.toNat
    let outputs := chunkOutputs s off buffer.toNat data
    chunks[j]? = some c →
    exec (.write address size buffer) s = .next (setWriteCursor ⟨c.1, size.toNat - (c.1 - off), c.1 - off⟩
      (setChip (if r < 2 then .idle else .programming) (afterEvents (.bus .disableMemoryMap ::
        ((chunks.take j).flatMap outputs ++ (outputs c).take (c.2 + r + 1))) s)))

/-- The `ChecksumAccumulator` after the word loop of `Checksum` holds the sum and the two skips, for size 0 it is never
set (10 R30, 42 R170); where `CHECKSUM`, `VERIFY` or `MMAP_ENABLE` waits for its mapping transaction, nothing is read
yet, the accumulator is as before and `chipState` too (40 R127, 70 R254). -/
def Obligations.ChecksumAccumulatorHolds : Prop :=
  (∀ (s t : State) (start size : Nat) (seed sum : Word), doChecksum start size seed s = .ok (sum, t) →
    t = { s with
      trace := t.trace
      checksumAcc := if size = 0 then s.checksumAcc else some ⟨sum, start % 4, (4 - (start + size) % 4) % 4⟩ }) ∧
  (∀ (i : Instr) (s : State), s.chipState = .configured ∨ s.chipState = .idle → NeverAnswers s 0 →
    ((∃ a n v, i = .checksum a n v) ∨ (∃ f r n h e, i = .verify f r n h e) ∨ i = .mmapEnable) →
    ¬ operandsOutOfRange s i →
    ∃ t, exec i s = .next t ∧
      t = { s with trace := .bus (mapCommand s) :: s.trace, txCount := s.txCount + 1, mapped := t.mapped })

/-! ## The primitives with an `Ok` oracle -/

/-- `RESET` completes: enable and execute for each round, `InterfaceState` reset, `chipState` `Reset` (40 R121). -/
def Obligations.ResetCompletes : Prop :=
  ∀ s : State, s.chipState = .reset ∨ s.chipState = .configured ∨ s.chipState = .idle → AnswersOk s →
    exec .reset s =
      .next (complete 1 (setChip .reset (setIface ⟨.single, .normal, .w24⟩ (afterEvents (resetOutputs s) s))))

/-- `WRITE_ENABLE` completes: the opcode, then one latch poll; `chipState` `Idle` (40 R122). -/
def Obligations.WriteEnableCompletes : Prop :=
  ∀ s : State, s.chipState = .configured ∨ s.chipState = .idle → AnswersOk s →
    exec .writeEnable s = .next (complete 1 (setChip .idle (afterEvents (writeEnableOutputs s) s)))

/-- `POLL_READY` completes: one ready poll with the caller's timeout; `Reset` stays, else `Idle` (40 R123). -/
def Obligations.PollReadyCompletes : Prop :=
  ∀ (s : State) (timeout : Word), s.chipState = .reset ∨ s.chipState = .configured ∨ s.chipState = .idle →
    AnswersOk s →
    exec (.pollReady timeout) s =
      .next (complete 1 (setChip (if s.chipState = .reset then .reset else .idle)
        (afterEvents [.bus (readyPoll s timeout)] s)))

/-- `CONFIGURE` completes with the transactions of 40 R124, the two received bytes ORed with the profile's masks and
written back, `InterfaceState` as configured, `chipState` `Configured`. -/
def Obligations.ConfigureCompletes : Prop :=
  ∀ s : State, s.chipState = .reset ∨ s.chipState = .configured ∨ s.chipState = .idle → AnswersOk s →
    exec .configure s =
      .next (complete 1 (setChip .configured (setIface (configuredIface s)
        (afterEvents (configureOutputs s (receivedByte s (s.txCount + 1)) (receivedByte s (s.txCount + 3))) s))))

/-- `ERASE_SECTOR` completes for every offset that the range check admits (40 R125). -/
def Obligations.EraseSectorCompletes : Prop :=
  ∀ (s : State) (addr : Word), s.chipState = .configured ∨ s.chipState = .idle → AnswersOk s →
    ¬ operandsOutOfRange s (.eraseSector addr) →
    exec (.eraseSector addr) s = .next (complete 1 (setChip .idle (afterEvents (eraseSectorOutputs s addr.toNat) s)))

/-- `ERASE_CHIP` completes (40 R126). -/
def Obligations.EraseChipCompletes : Prop :=
  ∀ s : State, s.chipState = .configured ∨ s.chipState = .idle → AnswersOk s →
    exec .eraseChip s = .next (complete 1 (setChip .idle (afterEvents (eraseChipOutputs s) s)))

/-- `MMAP_ENABLE` completes: one transaction, or none when already mapped; `MemoryMapped` (40 R127). -/
def Obligations.MmapEnableCompletes : Prop :=
  ∀ s : State, (s.chipState = .memoryMapped ∨ (s.chipState = .configured ∨ s.chipState = .idle) ∧ AnswersOk s) →
    exec .mmapEnable s = .next (complete 1 (mapEntered s))

/-- `MMAP_DISABLE` completes: one transaction always; `Idle`, the bus in command mode (40 R128). -/
def Obligations.MmapDisableCompletes : Prop :=
  ∀ s : State, s.chipState = .configured ∨ s.chipState = .idle ∨ s.chipState = .memoryMapped → AnswersOk s →
    exec .mmapDisable s = .next (complete 1 (setChip .idle (afterEvents [.bus .disableMemoryMap] s)))

/-! ## The host operations with an `Ok` oracle -/

/-- `INIT` completes from every resting state with a legal `profileIn`: the profile latched, the sequence of 43 R190,
`MemoryMapped`. -/
def Obligations.InitCompletes : Prop :=
  ∀ s : State, isResting s.chipState = true → s.profileIn.legal = true → AnswersOk s →
    let p := latchProfile s
    let n := s.txCount + (resetOutputs p).length
    exec .init s =
      .next (complete 1 (setChip .memoryMapped (setIface (configuredIface (setIface ⟨.single, .normal, .w24⟩ p))
        (afterEvents (initOutputs p (receivedByte s (n + 3)) (receivedByte s (n + 5))) p))))

/-- `INIT` with an illegal profile on `profileIn` is refused (10 R27). -/
def Obligations.InitRefusesIllegalProfile : Prop :=
  ∀ s : State, s.profileIn.legal = false → exec .init s = .refused .illegalProfile

/-- `MASS_ERASE` completes whatever its operand: `DisableMemoryMap`, then the chip erase; `Idle` (43 R192). -/
def Obligations.MassEraseCompletes : Prop :=
  ∀ (s : State) (parallelism : Word), s.chipState = .configured ∨ s.chipState = .idle ∨ s.chipState = .memoryMapped →
    AnswersOk s →
    exec (.massErase parallelism) s =
      .next (complete 1 (setChip .idle (afterEvents (.bus .disableMemoryMap :: eraseChipOutputs s) s)))

/-- `SECTOR_ERASE` completes: `DisableMemoryMap`, then one `EraseSector` for exactly the sectors of 43 R193, ascending;
`Idle` (43 R191). -/
def Obligations.SectorEraseCompletes : Prop :=
  ∀ (s : State) (a e : Word), s.chipState = .configured ∨ s.chipState = .idle ∨ s.chipState = .memoryMapped →
    AnswersOk s → 0 < s.profile.sectorSizeBytes → ¬ operandsOutOfRange s (.sectorErase a e) →
    exec (.sectorErase a e) s =
      .next (complete 1 (setChip .idle (afterEvents
        (.bus .disableMemoryMap :: sectorEraseOutputs s (toOffset s a) (toOffset s e)) s)))

/-- The sectors that `SECTOR_ERASE` is stated to erase are the set of 43 R193, each once, ascending. -/
def Obligations.SectorSetOfRange : Prop :=
  ∀ sector start stop : Nat, 0 < sector →
    (touchedSectors sector start stop).Pairwise (· < ·) ∧
    ∀ a, a ∈ touchedSectors sector start stop ↔ ∃ k, a = k * sector ∧ a ≤ stop ∧ start - start % sector ≤ a

/-! ## The page_write_splitter -/

/-- `WRITE` completes: `DisableMemoryMap`, then one `ProgramChunk` for each page piece of the range with the bytes of
the buffer, in order; `Idle` (41 R150, R151). -/
def Obligations.WriteCompletes : Prop :=
  ∀ (s : State) (address size buffer : Word) (data : List Byte),
    s.chipState = .configured ∨ s.chipState = .idle ∨ s.chipState = .memoryMapped → AnswersOk s →
    0 < s.profile.pageSizeBytes → ¬ operandsOutOfRange s (.write address size buffer) →
    data.length = size.toNat → RamHolds s buffer.toNat data →
    exec (.write address size buffer) s =
      .next (complete 1 (setChip .idle (afterEvents
        (.bus .disableMemoryMap :: writeOutputs s (toOffset s address) buffer.toNat data) s)))

/-- Page-split correctness: the chunks that `WRITE` programs cover the range exactly once in order, none crosses a page
boundary, and their lengths, number and alignment are those of 41 R152. -/
def Obligations.WriteIsAPageSplit : Prop :=
  ∀ (s : State) (address size buffer : Word) (data : List Byte),
    s.chipState = .configured ∨ s.chipState = .idle ∨ s.chipState = .memoryMapped → AnswersOk s →
    0 < s.profile.pageSizeBytes → ¬ operandsOutOfRange s (.write address size buffer) →
    data.length = size.toNat → RamHolds s buffer.toNat data →
    ∃ cs : List (Nat × Nat), IsPageSplit s.profile.pageSizeBytes (toOffset s address) size.toNat cs ∧
      ∃ t, exec (.write address size buffer) s = .next t ∧
        t.trace.reverse = s.trace.reverse ++ .bus .disableMemoryMap ::
          cs.flatMap fun c => programChunkOutputs s c.1 (buffer.toNat + (c.1 - toOffset s address))
            ((data.drop (c.1 - toOffset s address)).take c.2)

/-- An empty `WRITE` is a no-op success that still issues `DisableMemoryMap` (41 R153 (a)). -/
def Obligations.EmptyWriteOnlyDisables : Prop :=
  ∀ (s : State) (address buffer : Word),
    s.chipState = .configured ∨ s.chipState = .idle ∨ s.chipState = .memoryMapped → AnswersOk s →
    ¬ operandsOutOfRange s (.write address 0 buffer) →
    exec (.write address 0 buffer) s =
      .next (complete 1 (setChip .idle (afterEvents [.bus .disableMemoryMap] s)))

/-! ## The checksum_verify_engine -/

/-- `CHECKSUM` completes with the seed plus the bytes of exactly `[start, start + size)` modulo 2^32, after reading
each aligned word that meets the range once, ascending (42 R170, R171, R175). -/
def Obligations.ChecksumCompletes : Prop :=
  ∀ (s : State) (start size seed : Word) (m : Nat → Byte),
    (s.chipState = .memoryMapped ∨ (s.chipState = .configured ∨ s.chipState = .idle) ∧ AnswersOk s) →
    ¬ operandsOutOfRange s (.checksum start size seed) →
    (size ≠ 0 → CoverReads (mapEntered s) start.toNat size.toNat m) →
    exec (.checksum start size seed) s =
      .next (complete ((byteSum m start.toNat size.toNat seed).setWidth 64)
        (afterEvents (wordReads start.toNat size.toNat) (mapEntered s)))

/-- Additivity: a range can be summed in pieces by passing the running sum as the seed (42 R176). -/
def Obligations.ChecksumAdditive : Prop :=
  ∀ (s s1 s2 : State) (a n k : Nat) (seed x y : Word),
    doChecksum a n seed s = .ok (x, s1) → doChecksum (a + n) k x s = .ok (y, s2) →
    ∃ s3, doChecksum a (n + k) seed s = .ok (y, s3)

/-- `VERIFY` of equal regions: the checksum in `RES_HI`, 0 in `RES_LO`, `MISMATCH` as acceptance left it; the words of
the checksum range are read, then every byte pair (42 R173, R174). -/
def Obligations.VerifyEqualCompletes : Prop :=
  ∀ (s : State) (flash ram count : Word) (head tail : BitVec 4) (m : Nat → Byte),
    (s.chipState = .memoryMapped ∨ (s.chipState = .configured ∨ s.chipState = .idle) ∧ AnswersOk s) →
    ¬ operandsOutOfRange s (.verify flash ram count head tail) →
    let size := 4 * count.toNat
    let from_ := flash.toNat + head.toNat
    let n := size - tail.toNat
    (n ≠ 0 → CoverReads (mapEntered s) from_ n m) →
    RangeReads (mapEntered s) flash.toNat size m → RangeReads (mapEntered s) ram.toNat size m →
    (∀ k, k < size → m (flash.toNat + k) = m (ram.toNat + k)) →
    exec (.verify flash ram count head tail) s =
      .next (complete (byteSum m from_ n 0 ++ (0 : Word))
        (afterEvents (wordReads from_ n ++ pairReads flash.toNat ram.toNat size) (mapEntered s)))

/-- `VERIFY` of regions that first differ at offset `k`: `RES_HI` is the checksum, `RES_LO` is `flashAddress + k`,
`MISMATCH` is 1, and nothing after the differing pair is read (42 R173, R174, R176 (5), R177). -/
def Obligations.VerifyReportsFirstMismatch : Prop :=
  ∀ (s : State) (flash ram count : Word) (head tail : BitVec 4) (m : Nat → Byte) (k : Nat),
    (s.chipState = .memoryMapped ∨ (s.chipState = .configured ∨ s.chipState = .idle) ∧ AnswersOk s) →
    ¬ operandsOutOfRange s (.verify flash ram count head tail) →
    let size := 4 * count.toNat
    let from_ := flash.toNat + head.toNat
    let n := size - tail.toNat
    (n ≠ 0 → CoverReads (mapEntered s) from_ n m) →
    k < size → RangeReads (mapEntered s) flash.toNat (k + 1) m → RangeReads (mapEntered s) ram.toNat (k + 1) m →
    (∀ j, j < k → m (flash.toNat + j) = m (ram.toNat + j)) → m (flash.toNat + k) ≠ m (ram.toNat + k) →
    exec (.verify flash ram count head tail) s =
      .next (complete (byteSum m from_ n 0 ++ BitVec.ofNat 32 (flash.toNat + k))
        (setMismatch
          (afterEvents (wordReads from_ n ++ pairReads flash.toNat ram.toNat (k + 1)) (mapEntered s))))

/-! ## Memory, the window and the reference device -/

/-- The window reads the array while mapped and has no value in command mode (20 R54, R78); outside it RAM reads the
byte last stored there, and an address that no region backs has no value (20 R59, R71). -/
def Obligations.WindowReads : Prop :=
  ∀ s : State,
    (∀ o, o < s.profile.flashSizeBytes →
      (s.mapped = true → s.collab = .reference →
        memByte s (s.platform.mmapBase.toNat + o) = .ok (flashGet s.dev.flash o)) ∧
      (s.mapped = false →
        memByte s (s.platform.mmapBase.toNat + o) = .error (.windowNotMapped (s.platform.mmapBase.toNat + o)))) ∧
    (∀ a, a < s.platform.mmapBase.toNat ∨ s.platform.mmapBase.toNat + s.profile.flashSizeBytes ≤ a →
      (∀ r ∈ s.platform.ramRegions, r.base ≤ a → a < r.base + r.size →
        (∀ b, memFind s.ram a = some b → memByte s a = .ok b) ∧ ∃ b, memByte s a = .ok b) ∧
      ((∀ r ∈ s.platform.ramRegions, a < r.base ∨ r.base + r.size ≤ a) →
        memByte s a = .error (.unbackedRead a)))

/-- A failure injected on the reference device replaces its answer and skips its change of state (20 R79). -/
def Obligations.InjectedFailureSkipsDevice : Prop :=
  ∀ (s : State) (t : Txn) (k : FailKind), s.collab = .reference → s.forced.lookup s.txCount = some (.fail k) →
    ∃ s', bus t s = .error (.raised (match k with | .busError => .busError | .timeout => .timeout) s') ∧ s'.dev = s.dev ∧ s'.mapped = s.mapped ∧
      s'.trace = .bus t :: s.trace

/-- On the reference device `SECTOR_ERASE` leaves every byte of the touched sectors `0xFF` and every other byte as it
was (20 R74, 43 R193). -/
def Obligations.ReferenceSectorErase : Prop :=
  ∀ (s : State) (a e : Word), ReferenceReady s → s.profile.legal = true →
    s.chipState = .configured ∨ s.chipState = .idle ∨ s.chipState = .memoryMapped →
    toOffset s a < s.profile.flashSizeBytes → toOffset s e < s.profile.flashSizeBytes →
    toOffset s e < 2 ^ widthBits s.iface.addrw →
    let start := toOffset s a
    let stop := toOffset s e
    let sector := s.profile.sectorSizeBytes
    ∃ t, exec (.sectorErase a e) s = .next t ∧ resultWord t = 1 ∧ t.err = .noError ∧ t.chipState = .idle ∧
      ∀ o, flashGet t.dev.flash o =
        if start / sector ≤ o / sector ∧ o / sector ≤ stop / sector then 0xFF else flashGet s.dev.flash o

/-- On the reference device `WRITE` leaves `old AND buf` in the written range and every other byte as it was
(20 R77, its second sentence). -/
def Obligations.ReferenceWriteAnds : Prop :=
  ∀ (s : State) (address size buffer : Word) (data : List Byte), ReferenceReady s → s.profile.legal = true →
    s.chipState = .configured ∨ s.chipState = .idle ∨ s.chipState = .memoryMapped →
    data.length = size.toNat → RamHolds s buffer.toNat data → buffer.toNat + size.toNat ≤ 2 ^ 32 →
    toOffset s address + size.toNat ≤ s.profile.flashSizeBytes →
    toOffset s address + size.toNat ≤ 2 ^ widthBits s.iface.addrw →
    let off := toOffset s address
    ∃ t, exec (.write address size buffer) s = .next t ∧ resultWord t = 1 ∧ t.err = .noError ∧ t.chipState = .idle ∧
      (∀ i b, data[i]? = some b → flashGet t.dev.flash (off + i) = flashGet s.dev.flash (off + i) &&& b) ∧
      ∀ o, o < off ∨ off + data.length ≤ o → flashGet t.dev.flash o = flashGet s.dev.flash o

/-- The round trip: on the reference device, after `SECTOR_ERASE` covering a range, `WRITE` into it and `MMAP_ENABLE`,
the window reads the written bytes (20 R67, R77, R78). -/
def Obligations.ReferenceRoundTrip : Prop :=
  ∀ (s : State) (a e address size buffer : Word) (data : List Byte), ReferenceReady s → s.profile.legal = true →
    s.chipState = .configured ∨ s.chipState = .idle ∨ s.chipState = .memoryMapped →
    toOffset s a < s.profile.flashSizeBytes → toOffset s e < s.profile.flashSizeBytes →
    data.length = size.toNat → RamHolds s buffer.toNat data → buffer.toNat + size.toNat ≤ 2 ^ 32 →
    toOffset s address + size.toNat ≤ s.profile.flashSizeBytes →
    s.profile.flashSizeBytes ≤ 2 ^ widthBits s.iface.addrw →
    toOffset s a ≤ toOffset s address → toOffset s address + size.toNat ≤ toOffset s e + 1 →
    ∃ t1 t2 t3, exec (.sectorErase a e) s = .next t1 ∧ exec (.write address size buffer) t1 = .next t2 ∧
      exec .mmapEnable t2 = .next t3 ∧
      ∀ i b, data[i]? = some b → memByte t3 (t3.platform.mmapBase.toNat + toOffset s address + i) = .ok b

/-! ## Counts -/

/-- How many transactions `INIT`, `CONFIGURE` and `RESET` issue with an `Ok` oracle (70 R256). -/
def Obligations.TransactionCounts : Prop :=
  ∀ (s t : State), AnswersOk s →
    let count := fun (p : DeviceProfile) => 9 +
      (if p.configuredMode = .single then 0 else if p.addressWidthBits = .w24 then 1 else 2) +
      2 * (if p.hasWrap then 1 else 0)
    let rounds := fun (p : DeviceProfile) => if p.multiLineReset then 6 else 2
    (s.chipState = .reset ∨ s.chipState = .configured ∨ s.chipState = .idle → exec .configure s = .next t →
      t.txCount = s.txCount + count s.profile) ∧
    (s.chipState = .reset ∨ s.chipState = .configured ∨ s.chipState = .idle → exec .reset s = .next t →
      t.txCount = s.txCount + rounds s.profile) ∧
    (isResting s.chipState = true → exec .init s = .next t →
      t.txCount = s.txCount + (1 + rounds s.profileIn + 1 + count s.profileIn + 1))
end

