-- ==== Sys2Proof/Laws/Memory.lean ====
section
/-! SUPPORT. Laws of memories: a read after a write, and that every operation keeps the canonical form. -/

namespace Sys2Proof.Machine

/-! ### Reading after writing -/

@[simp] theorem memFind_memPut_same (m : Memory) (a : Nat) (b : Byte) : memFind (memPut m a b) a = some b := by
  induction m with
  | nil => simp [memPut, memFind]
  | cons c m ih =>
    obtain ⟨k, v⟩ := c
    unfold memPut
    split
    · simp [memFind]
    · split
      · simp [memFind]
      · rename_i _ h
        simp [memFind, h, ih]

theorem memFind_memPut_other (m : Memory) {a a' : Nat} (b : Byte) (h : a' ≠ a) :
    memFind (memPut m a b) a' = memFind m a' := by
  induction m with
  | nil => simp [memPut, memFind, h]
  | cons c m ih =>
    obtain ⟨k, v⟩ := c
    unfold memPut
    split
    · simp [memFind, h]
    · split
      · rename_i hk
        subst hk
        simp [memFind, h]
      · simp [memFind, ih]

theorem memFind_memClear (m : Memory) (lo n a : Nat) :
    memFind (memClear m lo n) a = if lo ≤ a ∧ a < lo + n then none else memFind m a := by
  induction m with
  | nil => simp [memClear, memFind]
  | cons c m ih =>
    obtain ⟨k, v⟩ := c
    simp only [memClear] at ih
    by_cases hk : lo ≤ k ∧ k < lo + n
    · have : memClear ((k, v) :: m) lo n = memClear m lo n := by simp [memClear, hk]
      rw [this, memClear, ih]
      by_cases ha : a = k
      · subst ha
        simp [hk]
      · simp [memFind, ha]
    · have : memClear ((k, v) :: m) lo n = (k, v) :: memClear m lo n := by
        simp only [memClear, List.filter_cons]
        have hb : (!(decide (lo ≤ k) && decide (k < lo + n))) = true := by
          simp only [Bool.not_eq_true', Bool.and_eq_false_iff, decide_eq_false_iff_not]
          omega
        rw [if_pos hb]
      rw [this, memFind, memClear, ih, memFind]
      by_cases ha : a = k
      · subst ha
        simp [hk]
      · simp [ha]

/-! ### The flash array -/

theorem flashGet_flashPut (m : Memory) (o o' : Nat) (b : Byte) :
    flashGet (flashPut m o b) o' = if o' = o then b else flashGet m o' := by
  unfold flashPut flashGet
  by_cases hb : b = erasedByte
  · simp only [hb, if_true, memFind_memClear]
    by_cases h : o' = o
    · simp [h]
    · have : ¬ (o ≤ o' ∧ o' < o + 1) := by omega
      rw [if_neg this, if_neg h]
  · simp only [hb, if_false]
    by_cases h : o' = o
    · simp [h]
    · simp [h, memFind_memPut_other m b h]

theorem ramGet_memPut (m : Memory) (a a' : Nat) (b : Byte) :
    ramGet (memPut m a b) a' = if a' = a then b else ramGet m a' := by
  unfold ramGet
  by_cases h : a' = a
  · simp [h]
  · simp [h, memFind_memPut_other m b h]

theorem flashGet_memClear (m : Memory) (lo n o : Nat) :
    flashGet (memClear m lo n) o = if lo ≤ o ∧ o < lo + n then erasedByte else flashGet m o := by
  unfold flashGet
  rw [memFind_memClear]
  split <;> simp

@[simp] theorem flashGet_nil (o : Nat) : flashGet [] o = erasedByte := rfl

/-! ### The canonical form -/

theorem memWf_nil (u : Option Byte) : memWf u [] := by simp [memWf]

theorem mem_memPut {m : Memory} {a : Nat} {b : Byte} {c : Host.Cell} (h : c ∈ memPut m a b) :
    c = (a, b) ∨ c ∈ m := by
  induction m with
  | nil => simpa [memPut] using h
  | cons d m ih =>
    obtain ⟨k, v⟩ := d
    unfold memPut at h
    split at h
    · simpa using h
    · split at h
      · rcases List.mem_cons.mp h with h | h
        · exact .inl h
        · exact .inr (List.mem_cons_of_mem _ h)
      · rcases List.mem_cons.mp h with h | h
        · exact .inr (by simp [h])
        · exact (ih h).imp id (List.mem_cons_of_mem _)

/-- A write keeps the canonical form, if it does not list what an unlisted address reads as. -/
theorem memPut_wf {u : Option Byte} {m : Memory} (a : Nat) {b : Byte} (hb : some b ≠ u) (h : memWf u m) :
    memWf u (memPut m a b) := by
  refine ⟨?_, fun c hc => ?_⟩
  · obtain ⟨h, -⟩ := h
    induction m with
    | nil => simp [memPut]
    | cons d m ih =>
      obtain ⟨k, v⟩ := d
      obtain ⟨hk, hm⟩ := List.pairwise_cons.mp h
      unfold memPut
      split
      · rename_i hlt
        refine List.pairwise_cons.mpr ⟨fun c hc => ?_, h⟩
        rcases List.mem_cons.mp hc with rfl | hc
        · exact hlt
        · exact Nat.lt_trans hlt (hk c hc)
      · split
        · rename_i _ heq
          subst heq
          exact List.pairwise_cons.mpr ⟨hk, hm⟩
        · refine List.pairwise_cons.mpr ⟨fun c hc => ?_, ih hm⟩
          rcases mem_memPut hc with rfl | hc
          · show k < a
            omega
          · exact hk c hc
  · rcases mem_memPut hc with rfl | hc
    · exact hb
    · exact h.2 c hc

/-- Unlisting addresses keeps the canonical form. -/
theorem memClear_wf {u : Option Byte} {m : Memory} (lo n : Nat) (h : memWf u m) : memWf u (memClear m lo n) :=
  ⟨h.1.filter _, fun c hc => h.2 c (List.mem_filter.mp hc).1⟩

/-- A write of the flash array keeps the canonical form. -/
theorem flashPut_wf {m : Memory} (o : Nat) (b : Byte) (h : memWf (some erasedByte) m) :
    memWf (some erasedByte) (flashPut m o b) := by
  unfold flashPut
  split
  · exact memClear_wf o 1 h
  · exact memPut_wf o (by simpa using ‹b ≠ erasedByte›) h

/-- A host store keeps the canonical form of `SYS`. -/
theorem memPut_ram_wf {m : Memory} (a : Nat) (b : Byte) (h : memWf ramUnlisted m) : memWf ramUnlisted (memPut m a b) :=
  memPut_wf a (by simp [ramUnlisted]) h

/-- The memories of the reset state are canonical. -/
theorem reset_memories_wf :
    memWf ramUnlisted State.reset.ram ∧ memWf (some erasedByte) State.reset.dev.flash :=
  ⟨memWf_nil _, memWf_nil _⟩

theorem deviceAnd_wf {p : DeviceProfile} {m : Memory} (o : Nat) (b : Byte) (h : memWf (some erasedByte) m) :
    memWf (some erasedByte) (deviceAnd p m o b) := by
  unfold deviceAnd
  split
  · exact flashPut_wf o _ h
  · exact h

theorem deviceProgram_wf {p : DeviceProfile} (a i : Nat) (bs : List Byte) {m : Memory}
    (h : memWf (some erasedByte) m) : memWf (some erasedByte) (deviceProgram p a i bs m) := by
  induction bs generalizing i m with
  | nil => exact h
  | cons b bs ih => exact ih _ (deviceAnd_wf _ _ h)

end Sys2Proof.Machine
end

