-- ==== Sys2Proof/Laws/State.lean ====
section
/-! SUPPORT. One lemma per field per register update: what the field is after the update. -/

namespace Sys2Proof.Machine

variable (s : State)

/-! ### `setChip` -/

section
variable (c : ChipState)

@[simp] theorem setChip_cmd : (setChip c s).cmd = s.cmd := rfl
@[simp] theorem setChip_arg0 : (setChip c s).arg0 = s.arg0 := rfl
@[simp] theorem setChip_arg1 : (setChip c s).arg1 = s.arg1 := rfl
@[simp] theorem setChip_arg2 : (setChip c s).arg2 = s.arg2 := rfl
@[simp] theorem setChip_arg3 : (setChip c s).arg3 = s.arg3 := rfl
@[simp] theorem setChip_resLo : (setChip c s).resLo = s.resLo := rfl
@[simp] theorem setChip_resHi : (setChip c s).resHi = s.resHi := rfl
@[simp] theorem setChip_busy : (setChip c s).busy = s.busy := rfl
@[simp] theorem setChip_done : (setChip c s).done = s.done := rfl
@[simp] theorem setChip_mismatch : (setChip c s).mismatch = s.mismatch := rfl
@[simp] theorem setChip_err : (setChip c s).err = s.err := rfl
@[simp] theorem setChip_chipState : (setChip c s).chipState = c := rfl
@[simp] theorem setChip_iface : (setChip c s).iface = s.iface := rfl
@[simp] theorem setChip_profile : (setChip c s).profile = s.profile := rfl
@[simp] theorem setChip_eraseRange : (setChip c s).eraseRange = s.eraseRange := rfl
@[simp] theorem setChip_writeCursor : (setChip c s).writeCursor = s.writeCursor := rfl
@[simp] theorem setChip_checksumAcc : (setChip c s).checksumAcc = s.checksumAcc := rfl
@[simp] theorem setChip_platform : (setChip c s).platform = s.platform := rfl
@[simp] theorem setChip_profileIn : (setChip c s).profileIn = s.profileIn := rfl
@[simp] theorem setChip_mapped : (setChip c s).mapped = s.mapped := rfl
@[simp] theorem setChip_dev : (setChip c s).dev = s.dev := rfl
@[simp] theorem setChip_ram : (setChip c s).ram = s.ram := rfl
@[simp] theorem setChip_collab : (setChip c s).collab = s.collab := rfl
@[simp] theorem setChip_forced : (setChip c s).forced = s.forced := rfl
@[simp] theorem setChip_txCount : (setChip c s).txCount = s.txCount := rfl
@[simp] theorem setChip_trace : (setChip c s).trace = s.trace := rfl
@[simp] theorem setChip_moves : (setChip c s).moves = s.moves := rfl
@[simp] theorem setChip_hostData : (setChip c s).hostData = s.hostData := rfl

end

/-! ### `setIface` -/

section
variable (f : InterfaceState)

@[simp] theorem setIface_cmd : (setIface f s).cmd = s.cmd := rfl
@[simp] theorem setIface_arg0 : (setIface f s).arg0 = s.arg0 := rfl
@[simp] theorem setIface_arg1 : (setIface f s).arg1 = s.arg1 := rfl
@[simp] theorem setIface_arg2 : (setIface f s).arg2 = s.arg2 := rfl
@[simp] theorem setIface_arg3 : (setIface f s).arg3 = s.arg3 := rfl
@[simp] theorem setIface_resLo : (setIface f s).resLo = s.resLo := rfl
@[simp] theorem setIface_resHi : (setIface f s).resHi = s.resHi := rfl
@[simp] theorem setIface_busy : (setIface f s).busy = s.busy := rfl
@[simp] theorem setIface_done : (setIface f s).done = s.done := rfl
@[simp] theorem setIface_mismatch : (setIface f s).mismatch = s.mismatch := rfl
@[simp] theorem setIface_err : (setIface f s).err = s.err := rfl
@[simp] theorem setIface_chipState : (setIface f s).chipState = s.chipState := rfl
@[simp] theorem setIface_iface : (setIface f s).iface = f := rfl
@[simp] theorem setIface_profile : (setIface f s).profile = s.profile := rfl
@[simp] theorem setIface_eraseRange : (setIface f s).eraseRange = s.eraseRange := rfl
@[simp] theorem setIface_writeCursor : (setIface f s).writeCursor = s.writeCursor := rfl
@[simp] theorem setIface_checksumAcc : (setIface f s).checksumAcc = s.checksumAcc := rfl
@[simp] theorem setIface_platform : (setIface f s).platform = s.platform := rfl
@[simp] theorem setIface_profileIn : (setIface f s).profileIn = s.profileIn := rfl
@[simp] theorem setIface_mapped : (setIface f s).mapped = s.mapped := rfl
@[simp] theorem setIface_dev : (setIface f s).dev = s.dev := rfl
@[simp] theorem setIface_ram : (setIface f s).ram = s.ram := rfl
@[simp] theorem setIface_collab : (setIface f s).collab = s.collab := rfl
@[simp] theorem setIface_forced : (setIface f s).forced = s.forced := rfl
@[simp] theorem setIface_txCount : (setIface f s).txCount = s.txCount := rfl
@[simp] theorem setIface_trace : (setIface f s).trace = s.trace := rfl
@[simp] theorem setIface_moves : (setIface f s).moves = s.moves := rfl
@[simp] theorem setIface_hostData : (setIface f s).hostData = s.hostData := rfl

end

/-! ### `setAddrWidth` -/

section
variable (w : AddrWidth)

@[simp] theorem setAddrWidth_cmd : (setAddrWidth w s).cmd = s.cmd := rfl
@[simp] theorem setAddrWidth_arg0 : (setAddrWidth w s).arg0 = s.arg0 := rfl
@[simp] theorem setAddrWidth_arg1 : (setAddrWidth w s).arg1 = s.arg1 := rfl
@[simp] theorem setAddrWidth_arg2 : (setAddrWidth w s).arg2 = s.arg2 := rfl
@[simp] theorem setAddrWidth_arg3 : (setAddrWidth w s).arg3 = s.arg3 := rfl
@[simp] theorem setAddrWidth_resLo : (setAddrWidth w s).resLo = s.resLo := rfl
@[simp] theorem setAddrWidth_resHi : (setAddrWidth w s).resHi = s.resHi := rfl
@[simp] theorem setAddrWidth_busy : (setAddrWidth w s).busy = s.busy := rfl
@[simp] theorem setAddrWidth_done : (setAddrWidth w s).done = s.done := rfl
@[simp] theorem setAddrWidth_mismatch : (setAddrWidth w s).mismatch = s.mismatch := rfl
@[simp] theorem setAddrWidth_err : (setAddrWidth w s).err = s.err := rfl
@[simp] theorem setAddrWidth_chipState : (setAddrWidth w s).chipState = s.chipState := rfl
@[simp] theorem setAddrWidth_iface : (setAddrWidth w s).iface = { s.iface with addrw := w } := rfl
@[simp] theorem setAddrWidth_profile : (setAddrWidth w s).profile = s.profile := rfl
@[simp] theorem setAddrWidth_eraseRange : (setAddrWidth w s).eraseRange = s.eraseRange := rfl
@[simp] theorem setAddrWidth_writeCursor : (setAddrWidth w s).writeCursor = s.writeCursor := rfl
@[simp] theorem setAddrWidth_checksumAcc : (setAddrWidth w s).checksumAcc = s.checksumAcc := rfl
@[simp] theorem setAddrWidth_platform : (setAddrWidth w s).platform = s.platform := rfl
@[simp] theorem setAddrWidth_profileIn : (setAddrWidth w s).profileIn = s.profileIn := rfl
@[simp] theorem setAddrWidth_mapped : (setAddrWidth w s).mapped = s.mapped := rfl
@[simp] theorem setAddrWidth_dev : (setAddrWidth w s).dev = s.dev := rfl
@[simp] theorem setAddrWidth_ram : (setAddrWidth w s).ram = s.ram := rfl
@[simp] theorem setAddrWidth_collab : (setAddrWidth w s).collab = s.collab := rfl
@[simp] theorem setAddrWidth_forced : (setAddrWidth w s).forced = s.forced := rfl
@[simp] theorem setAddrWidth_txCount : (setAddrWidth w s).txCount = s.txCount := rfl
@[simp] theorem setAddrWidth_trace : (setAddrWidth w s).trace = s.trace := rfl
@[simp] theorem setAddrWidth_moves : (setAddrWidth w s).moves = s.moves := rfl
@[simp] theorem setAddrWidth_hostData : (setAddrWidth w s).hostData = s.hostData := rfl

end

/-! ### `setModeRate` -/

section
variable (m : IfMode) (r : Rate)

@[simp] theorem setModeRate_cmd : (setModeRate m r s).cmd = s.cmd := rfl
@[simp] theorem setModeRate_arg0 : (setModeRate m r s).arg0 = s.arg0 := rfl
@[simp] theorem setModeRate_arg1 : (setModeRate m r s).arg1 = s.arg1 := rfl
@[simp] theorem setModeRate_arg2 : (setModeRate m r s).arg2 = s.arg2 := rfl
@[simp] theorem setModeRate_arg3 : (setModeRate m r s).arg3 = s.arg3 := rfl
@[simp] theorem setModeRate_resLo : (setModeRate m r s).resLo = s.resLo := rfl
@[simp] theorem setModeRate_resHi : (setModeRate m r s).resHi = s.resHi := rfl
@[simp] theorem setModeRate_busy : (setModeRate m r s).busy = s.busy := rfl
@[simp] theorem setModeRate_done : (setModeRate m r s).done = s.done := rfl
@[simp] theorem setModeRate_mismatch : (setModeRate m r s).mismatch = s.mismatch := rfl
@[simp] theorem setModeRate_err : (setModeRate m r s).err = s.err := rfl
@[simp] theorem setModeRate_chipState : (setModeRate m r s).chipState = s.chipState := rfl
@[simp] theorem setModeRate_iface : (setModeRate m r s).iface = { s.iface with mode := m, rate := r } := rfl
@[simp] theorem setModeRate_profile : (setModeRate m r s).profile = s.profile := rfl
@[simp] theorem setModeRate_eraseRange : (setModeRate m r s).eraseRange = s.eraseRange := rfl
@[simp] theorem setModeRate_writeCursor : (setModeRate m r s).writeCursor = s.writeCursor := rfl
@[simp] theorem setModeRate_checksumAcc : (setModeRate m r s).checksumAcc = s.checksumAcc := rfl
@[simp] theorem setModeRate_platform : (setModeRate m r s).platform = s.platform := rfl
@[simp] theorem setModeRate_profileIn : (setModeRate m r s).profileIn = s.profileIn := rfl
@[simp] theorem setModeRate_mapped : (setModeRate m r s).mapped = s.mapped := rfl
@[simp] theorem setModeRate_dev : (setModeRate m r s).dev = s.dev := rfl
@[simp] theorem setModeRate_ram : (setModeRate m r s).ram = s.ram := rfl
@[simp] theorem setModeRate_collab : (setModeRate m r s).collab = s.collab := rfl
@[simp] theorem setModeRate_forced : (setModeRate m r s).forced = s.forced := rfl
@[simp] theorem setModeRate_txCount : (setModeRate m r s).txCount = s.txCount := rfl
@[simp] theorem setModeRate_trace : (setModeRate m r s).trace = s.trace := rfl
@[simp] theorem setModeRate_moves : (setModeRate m r s).moves = s.moves := rfl
@[simp] theorem setModeRate_hostData : (setModeRate m r s).hostData = s.hostData := rfl

end

/-! ### `latchProfile` -/

@[simp] theorem latchProfile_cmd : (latchProfile s).cmd = s.cmd := rfl
@[simp] theorem latchProfile_arg0 : (latchProfile s).arg0 = s.arg0 := rfl
@[simp] theorem latchProfile_arg1 : (latchProfile s).arg1 = s.arg1 := rfl
@[simp] theorem latchProfile_arg2 : (latchProfile s).arg2 = s.arg2 := rfl
@[simp] theorem latchProfile_arg3 : (latchProfile s).arg3 = s.arg3 := rfl
@[simp] theorem latchProfile_resLo : (latchProfile s).resLo = s.resLo := rfl
@[simp] theorem latchProfile_resHi : (latchProfile s).resHi = s.resHi := rfl
@[simp] theorem latchProfile_busy : (latchProfile s).busy = s.busy := rfl
@[simp] theorem latchProfile_done : (latchProfile s).done = s.done := rfl
@[simp] theorem latchProfile_mismatch : (latchProfile s).mismatch = s.mismatch := rfl
@[simp] theorem latchProfile_err : (latchProfile s).err = s.err := rfl
@[simp] theorem latchProfile_chipState : (latchProfile s).chipState = s.chipState := rfl
@[simp] theorem latchProfile_iface : (latchProfile s).iface = s.iface := rfl
@[simp] theorem latchProfile_profile : (latchProfile s).profile = s.profileIn := rfl
@[simp] theorem latchProfile_eraseRange : (latchProfile s).eraseRange = s.eraseRange := rfl
@[simp] theorem latchProfile_writeCursor : (latchProfile s).writeCursor = s.writeCursor := rfl
@[simp] theorem latchProfile_checksumAcc : (latchProfile s).checksumAcc = s.checksumAcc := rfl
@[simp] theorem latchProfile_platform : (latchProfile s).platform = s.platform := rfl
@[simp] theorem latchProfile_profileIn : (latchProfile s).profileIn = s.profileIn := rfl
@[simp] theorem latchProfile_mapped : (latchProfile s).mapped = s.mapped := rfl
@[simp] theorem latchProfile_dev : (latchProfile s).dev = s.dev := rfl
@[simp] theorem latchProfile_ram : (latchProfile s).ram = s.ram := rfl
@[simp] theorem latchProfile_collab : (latchProfile s).collab = s.collab := rfl
@[simp] theorem latchProfile_forced : (latchProfile s).forced = s.forced := rfl
@[simp] theorem latchProfile_txCount : (latchProfile s).txCount = s.txCount := rfl
@[simp] theorem latchProfile_trace : (latchProfile s).trace = s.trace := rfl
@[simp] theorem latchProfile_moves : (latchProfile s).moves = s.moves := rfl
@[simp] theorem latchProfile_hostData : (latchProfile s).hostData = s.hostData := rfl

/-! ### `setEraseRange` -/

section
variable (e : EraseRange)

@[simp] theorem setEraseRange_cmd : (setEraseRange e s).cmd = s.cmd := rfl
@[simp] theorem setEraseRange_arg0 : (setEraseRange e s).arg0 = s.arg0 := rfl
@[simp] theorem setEraseRange_arg1 : (setEraseRange e s).arg1 = s.arg1 := rfl
@[simp] theorem setEraseRange_arg2 : (setEraseRange e s).arg2 = s.arg2 := rfl
@[simp] theorem setEraseRange_arg3 : (setEraseRange e s).arg3 = s.arg3 := rfl
@[simp] theorem setEraseRange_resLo : (setEraseRange e s).resLo = s.resLo := rfl
@[simp] theorem setEraseRange_resHi : (setEraseRange e s).resHi = s.resHi := rfl
@[simp] theorem setEraseRange_busy : (setEraseRange e s).busy = s.busy := rfl
@[simp] theorem setEraseRange_done : (setEraseRange e s).done = s.done := rfl
@[simp] theorem setEraseRange_mismatch : (setEraseRange e s).mismatch = s.mismatch := rfl
@[simp] theorem setEraseRange_err : (setEraseRange e s).err = s.err := rfl
@[simp] theorem setEraseRange_chipState : (setEraseRange e s).chipState = s.chipState := rfl
@[simp] theorem setEraseRange_iface : (setEraseRange e s).iface = s.iface := rfl
@[simp] theorem setEraseRange_profile : (setEraseRange e s).profile = s.profile := rfl
@[simp] theorem setEraseRange_eraseRange : (setEraseRange e s).eraseRange = some e := rfl
@[simp] theorem setEraseRange_writeCursor : (setEraseRange e s).writeCursor = s.writeCursor := rfl
@[simp] theorem setEraseRange_checksumAcc : (setEraseRange e s).checksumAcc = s.checksumAcc := rfl
@[simp] theorem setEraseRange_platform : (setEraseRange e s).platform = s.platform := rfl
@[simp] theorem setEraseRange_profileIn : (setEraseRange e s).profileIn = s.profileIn := rfl
@[simp] theorem setEraseRange_mapped : (setEraseRange e s).mapped = s.mapped := rfl
@[simp] theorem setEraseRange_dev : (setEraseRange e s).dev = s.dev := rfl
@[simp] theorem setEraseRange_ram : (setEraseRange e s).ram = s.ram := rfl
@[simp] theorem setEraseRange_collab : (setEraseRange e s).collab = s.collab := rfl
@[simp] theorem setEraseRange_forced : (setEraseRange e s).forced = s.forced := rfl
@[simp] theorem setEraseRange_txCount : (setEraseRange e s).txCount = s.txCount := rfl
@[simp] theorem setEraseRange_trace : (setEraseRange e s).trace = s.trace := rfl
@[simp] theorem setEraseRange_moves : (setEraseRange e s).moves = s.moves := rfl
@[simp] theorem setEraseRange_hostData : (setEraseRange e s).hostData = s.hostData := rfl

end

/-! ### `setWriteCursor` -/

section
variable (w : WriteCursor)

@[simp] theorem setWriteCursor_cmd : (setWriteCursor w s).cmd = s.cmd := rfl
@[simp] theorem setWriteCursor_arg0 : (setWriteCursor w s).arg0 = s.arg0 := rfl
@[simp] theorem setWriteCursor_arg1 : (setWriteCursor w s).arg1 = s.arg1 := rfl
@[simp] theorem setWriteCursor_arg2 : (setWriteCursor w s).arg2 = s.arg2 := rfl
@[simp] theorem setWriteCursor_arg3 : (setWriteCursor w s).arg3 = s.arg3 := rfl
@[simp] theorem setWriteCursor_resLo : (setWriteCursor w s).resLo = s.resLo := rfl
@[simp] theorem setWriteCursor_resHi : (setWriteCursor w s).resHi = s.resHi := rfl
@[simp] theorem setWriteCursor_busy : (setWriteCursor w s).busy = s.busy := rfl
@[simp] theorem setWriteCursor_done : (setWriteCursor w s).done = s.done := rfl
@[simp] theorem setWriteCursor_mismatch : (setWriteCursor w s).mismatch = s.mismatch := rfl
@[simp] theorem setWriteCursor_err : (setWriteCursor w s).err = s.err := rfl
@[simp] theorem setWriteCursor_chipState : (setWriteCursor w s).chipState = s.chipState := rfl
@[simp] theorem setWriteCursor_iface : (setWriteCursor w s).iface = s.iface := rfl
@[simp] theorem setWriteCursor_profile : (setWriteCursor w s).profile = s.profile := rfl
@[simp] theorem setWriteCursor_eraseRange : (setWriteCursor w s).eraseRange = s.eraseRange := rfl
@[simp] theorem setWriteCursor_writeCursor : (setWriteCursor w s).writeCursor = some w := rfl
@[simp] theorem setWriteCursor_checksumAcc : (setWriteCursor w s).checksumAcc = s.checksumAcc := rfl
@[simp] theorem setWriteCursor_platform : (setWriteCursor w s).platform = s.platform := rfl
@[simp] theorem setWriteCursor_profileIn : (setWriteCursor w s).profileIn = s.profileIn := rfl
@[simp] theorem setWriteCursor_mapped : (setWriteCursor w s).mapped = s.mapped := rfl
@[simp] theorem setWriteCursor_dev : (setWriteCursor w s).dev = s.dev := rfl
@[simp] theorem setWriteCursor_ram : (setWriteCursor w s).ram = s.ram := rfl
@[simp] theorem setWriteCursor_collab : (setWriteCursor w s).collab = s.collab := rfl
@[simp] theorem setWriteCursor_forced : (setWriteCursor w s).forced = s.forced := rfl
@[simp] theorem setWriteCursor_txCount : (setWriteCursor w s).txCount = s.txCount := rfl
@[simp] theorem setWriteCursor_trace : (setWriteCursor w s).trace = s.trace := rfl
@[simp] theorem setWriteCursor_moves : (setWriteCursor w s).moves = s.moves := rfl
@[simp] theorem setWriteCursor_hostData : (setWriteCursor w s).hostData = s.hostData := rfl

end

/-! ### `setChecksumAcc` -/

section
variable (c : ChecksumAccumulator)

@[simp] theorem setChecksumAcc_cmd : (setChecksumAcc c s).cmd = s.cmd := rfl
@[simp] theorem setChecksumAcc_arg0 : (setChecksumAcc c s).arg0 = s.arg0 := rfl
@[simp] theorem setChecksumAcc_arg1 : (setChecksumAcc c s).arg1 = s.arg1 := rfl
@[simp] theorem setChecksumAcc_arg2 : (setChecksumAcc c s).arg2 = s.arg2 := rfl
@[simp] theorem setChecksumAcc_arg3 : (setChecksumAcc c s).arg3 = s.arg3 := rfl
@[simp] theorem setChecksumAcc_resLo : (setChecksumAcc c s).resLo = s.resLo := rfl
@[simp] theorem setChecksumAcc_resHi : (setChecksumAcc c s).resHi = s.resHi := rfl
@[simp] theorem setChecksumAcc_busy : (setChecksumAcc c s).busy = s.busy := rfl
@[simp] theorem setChecksumAcc_done : (setChecksumAcc c s).done = s.done := rfl
@[simp] theorem setChecksumAcc_mismatch : (setChecksumAcc c s).mismatch = s.mismatch := rfl
@[simp] theorem setChecksumAcc_err : (setChecksumAcc c s).err = s.err := rfl
@[simp] theorem setChecksumAcc_chipState : (setChecksumAcc c s).chipState = s.chipState := rfl
@[simp] theorem setChecksumAcc_iface : (setChecksumAcc c s).iface = s.iface := rfl
@[simp] theorem setChecksumAcc_profile : (setChecksumAcc c s).profile = s.profile := rfl
@[simp] theorem setChecksumAcc_eraseRange : (setChecksumAcc c s).eraseRange = s.eraseRange := rfl
@[simp] theorem setChecksumAcc_writeCursor : (setChecksumAcc c s).writeCursor = s.writeCursor := rfl
@[simp] theorem setChecksumAcc_checksumAcc : (setChecksumAcc c s).checksumAcc = some c := rfl
@[simp] theorem setChecksumAcc_platform : (setChecksumAcc c s).platform = s.platform := rfl
@[simp] theorem setChecksumAcc_profileIn : (setChecksumAcc c s).profileIn = s.profileIn := rfl
@[simp] theorem setChecksumAcc_mapped : (setChecksumAcc c s).mapped = s.mapped := rfl
@[simp] theorem setChecksumAcc_dev : (setChecksumAcc c s).dev = s.dev := rfl
@[simp] theorem setChecksumAcc_ram : (setChecksumAcc c s).ram = s.ram := rfl
@[simp] theorem setChecksumAcc_collab : (setChecksumAcc c s).collab = s.collab := rfl
@[simp] theorem setChecksumAcc_forced : (setChecksumAcc c s).forced = s.forced := rfl
@[simp] theorem setChecksumAcc_txCount : (setChecksumAcc c s).txCount = s.txCount := rfl
@[simp] theorem setChecksumAcc_trace : (setChecksumAcc c s).trace = s.trace := rfl
@[simp] theorem setChecksumAcc_moves : (setChecksumAcc c s).moves = s.moves := rfl
@[simp] theorem setChecksumAcc_hostData : (setChecksumAcc c s).hostData = s.hostData := rfl

end

/-! ### `setMismatch` -/

@[simp] theorem setMismatch_cmd : (setMismatch s).cmd = s.cmd := rfl
@[simp] theorem setMismatch_arg0 : (setMismatch s).arg0 = s.arg0 := rfl
@[simp] theorem setMismatch_arg1 : (setMismatch s).arg1 = s.arg1 := rfl
@[simp] theorem setMismatch_arg2 : (setMismatch s).arg2 = s.arg2 := rfl
@[simp] theorem setMismatch_arg3 : (setMismatch s).arg3 = s.arg3 := rfl
@[simp] theorem setMismatch_resLo : (setMismatch s).resLo = s.resLo := rfl
@[simp] theorem setMismatch_resHi : (setMismatch s).resHi = s.resHi := rfl
@[simp] theorem setMismatch_busy : (setMismatch s).busy = s.busy := rfl
@[simp] theorem setMismatch_done : (setMismatch s).done = s.done := rfl
@[simp] theorem setMismatch_mismatch : (setMismatch s).mismatch = true := rfl
@[simp] theorem setMismatch_err : (setMismatch s).err = s.err := rfl
@[simp] theorem setMismatch_chipState : (setMismatch s).chipState = s.chipState := rfl
@[simp] theorem setMismatch_iface : (setMismatch s).iface = s.iface := rfl
@[simp] theorem setMismatch_profile : (setMismatch s).profile = s.profile := rfl
@[simp] theorem setMismatch_eraseRange : (setMismatch s).eraseRange = s.eraseRange := rfl
@[simp] theorem setMismatch_writeCursor : (setMismatch s).writeCursor = s.writeCursor := rfl
@[simp] theorem setMismatch_checksumAcc : (setMismatch s).checksumAcc = s.checksumAcc := rfl
@[simp] theorem setMismatch_platform : (setMismatch s).platform = s.platform := rfl
@[simp] theorem setMismatch_profileIn : (setMismatch s).profileIn = s.profileIn := rfl
@[simp] theorem setMismatch_mapped : (setMismatch s).mapped = s.mapped := rfl
@[simp] theorem setMismatch_dev : (setMismatch s).dev = s.dev := rfl
@[simp] theorem setMismatch_ram : (setMismatch s).ram = s.ram := rfl
@[simp] theorem setMismatch_collab : (setMismatch s).collab = s.collab := rfl
@[simp] theorem setMismatch_forced : (setMismatch s).forced = s.forced := rfl
@[simp] theorem setMismatch_txCount : (setMismatch s).txCount = s.txCount := rfl
@[simp] theorem setMismatch_trace : (setMismatch s).trace = s.trace := rfl
@[simp] theorem setMismatch_moves : (setMismatch s).moves = s.moves := rfl
@[simp] theorem setMismatch_hostData : (setMismatch s).hostData = s.hostData := rfl

/-! ### `logRead` -/

section
variable (a n : Nat)

@[simp] theorem logRead_cmd : (logRead a n s).cmd = s.cmd := rfl
@[simp] theorem logRead_arg0 : (logRead a n s).arg0 = s.arg0 := rfl
@[simp] theorem logRead_arg1 : (logRead a n s).arg1 = s.arg1 := rfl
@[simp] theorem logRead_arg2 : (logRead a n s).arg2 = s.arg2 := rfl
@[simp] theorem logRead_arg3 : (logRead a n s).arg3 = s.arg3 := rfl
@[simp] theorem logRead_resLo : (logRead a n s).resLo = s.resLo := rfl
@[simp] theorem logRead_resHi : (logRead a n s).resHi = s.resHi := rfl
@[simp] theorem logRead_busy : (logRead a n s).busy = s.busy := rfl
@[simp] theorem logRead_done : (logRead a n s).done = s.done := rfl
@[simp] theorem logRead_mismatch : (logRead a n s).mismatch = s.mismatch := rfl
@[simp] theorem logRead_err : (logRead a n s).err = s.err := rfl
@[simp] theorem logRead_chipState : (logRead a n s).chipState = s.chipState := rfl
@[simp] theorem logRead_iface : (logRead a n s).iface = s.iface := rfl
@[simp] theorem logRead_profile : (logRead a n s).profile = s.profile := rfl
@[simp] theorem logRead_eraseRange : (logRead a n s).eraseRange = s.eraseRange := rfl
@[simp] theorem logRead_writeCursor : (logRead a n s).writeCursor = s.writeCursor := rfl
@[simp] theorem logRead_checksumAcc : (logRead a n s).checksumAcc = s.checksumAcc := rfl
@[simp] theorem logRead_platform : (logRead a n s).platform = s.platform := rfl
@[simp] theorem logRead_profileIn : (logRead a n s).profileIn = s.profileIn := rfl
@[simp] theorem logRead_mapped : (logRead a n s).mapped = s.mapped := rfl
@[simp] theorem logRead_dev : (logRead a n s).dev = s.dev := rfl
@[simp] theorem logRead_ram : (logRead a n s).ram = s.ram := rfl
@[simp] theorem logRead_collab : (logRead a n s).collab = s.collab := rfl
@[simp] theorem logRead_forced : (logRead a n s).forced = s.forced := rfl
@[simp] theorem logRead_txCount : (logRead a n s).txCount = s.txCount := rfl
@[simp] theorem logRead_trace : (logRead a n s).trace = .memRead a n :: s.trace := rfl
@[simp] theorem logRead_moves : (logRead a n s).moves = s.moves := rfl
@[simp] theorem logRead_hostData : (logRead a n s).hostData = s.hostData := rfl

end

/-! ### `logTxn` -/

section
variable (t : Txn)

@[simp] theorem logTxn_cmd : (logTxn t s).cmd = s.cmd := rfl
@[simp] theorem logTxn_arg0 : (logTxn t s).arg0 = s.arg0 := rfl
@[simp] theorem logTxn_arg1 : (logTxn t s).arg1 = s.arg1 := rfl
@[simp] theorem logTxn_arg2 : (logTxn t s).arg2 = s.arg2 := rfl
@[simp] theorem logTxn_arg3 : (logTxn t s).arg3 = s.arg3 := rfl
@[simp] theorem logTxn_resLo : (logTxn t s).resLo = s.resLo := rfl
@[simp] theorem logTxn_resHi : (logTxn t s).resHi = s.resHi := rfl
@[simp] theorem logTxn_busy : (logTxn t s).busy = s.busy := rfl
@[simp] theorem logTxn_done : (logTxn t s).done = s.done := rfl
@[simp] theorem logTxn_mismatch : (logTxn t s).mismatch = s.mismatch := rfl
@[simp] theorem logTxn_err : (logTxn t s).err = s.err := rfl
@[simp] theorem logTxn_chipState : (logTxn t s).chipState = s.chipState := rfl
@[simp] theorem logTxn_iface : (logTxn t s).iface = s.iface := rfl
@[simp] theorem logTxn_profile : (logTxn t s).profile = s.profile := rfl
@[simp] theorem logTxn_eraseRange : (logTxn t s).eraseRange = s.eraseRange := rfl
@[simp] theorem logTxn_writeCursor : (logTxn t s).writeCursor = s.writeCursor := rfl
@[simp] theorem logTxn_checksumAcc : (logTxn t s).checksumAcc = s.checksumAcc := rfl
@[simp] theorem logTxn_platform : (logTxn t s).platform = s.platform := rfl
@[simp] theorem logTxn_profileIn : (logTxn t s).profileIn = s.profileIn := rfl
@[simp] theorem logTxn_mapped : (logTxn t s).mapped = s.mapped := rfl
@[simp] theorem logTxn_dev : (logTxn t s).dev = s.dev := rfl
@[simp] theorem logTxn_ram : (logTxn t s).ram = s.ram := rfl
@[simp] theorem logTxn_collab : (logTxn t s).collab = s.collab := rfl
@[simp] theorem logTxn_forced : (logTxn t s).forced = s.forced := rfl
@[simp] theorem logTxn_txCount : (logTxn t s).txCount = s.txCount + 1 := rfl
@[simp] theorem logTxn_trace : (logTxn t s).trace = .bus t :: s.trace := rfl
@[simp] theorem logTxn_moves : (logTxn t s).moves = s.moves := rfl
@[simp] theorem logTxn_hostData : (logTxn t s).hostData = s.hostData := rfl

end

/-! ### `setBus` -/

section
variable (m : Bool) (d : RefDevice)

@[simp] theorem setBus_cmd : (setBus m d s).cmd = s.cmd := rfl
@[simp] theorem setBus_arg0 : (setBus m d s).arg0 = s.arg0 := rfl
@[simp] theorem setBus_arg1 : (setBus m d s).arg1 = s.arg1 := rfl
@[simp] theorem setBus_arg2 : (setBus m d s).arg2 = s.arg2 := rfl
@[simp] theorem setBus_arg3 : (setBus m d s).arg3 = s.arg3 := rfl
@[simp] theorem setBus_resLo : (setBus m d s).resLo = s.resLo := rfl
@[simp] theorem setBus_resHi : (setBus m d s).resHi = s.resHi := rfl
@[simp] theorem setBus_busy : (setBus m d s).busy = s.busy := rfl
@[simp] theorem setBus_done : (setBus m d s).done = s.done := rfl
@[simp] theorem setBus_mismatch : (setBus m d s).mismatch = s.mismatch := rfl
@[simp] theorem setBus_err : (setBus m d s).err = s.err := rfl
@[simp] theorem setBus_chipState : (setBus m d s).chipState = s.chipState := rfl
@[simp] theorem setBus_iface : (setBus m d s).iface = s.iface := rfl
@[simp] theorem setBus_profile : (setBus m d s).profile = s.profile := rfl
@[simp] theorem setBus_eraseRange : (setBus m d s).eraseRange = s.eraseRange := rfl
@[simp] theorem setBus_writeCursor : (setBus m d s).writeCursor = s.writeCursor := rfl
@[simp] theorem setBus_checksumAcc : (setBus m d s).checksumAcc = s.checksumAcc := rfl
@[simp] theorem setBus_platform : (setBus m d s).platform = s.platform := rfl
@[simp] theorem setBus_profileIn : (setBus m d s).profileIn = s.profileIn := rfl
@[simp] theorem setBus_mapped : (setBus m d s).mapped = m := rfl
@[simp] theorem setBus_dev : (setBus m d s).dev = d := rfl
@[simp] theorem setBus_ram : (setBus m d s).ram = s.ram := rfl
@[simp] theorem setBus_collab : (setBus m d s).collab = s.collab := rfl
@[simp] theorem setBus_forced : (setBus m d s).forced = s.forced := rfl
@[simp] theorem setBus_txCount : (setBus m d s).txCount = s.txCount := rfl
@[simp] theorem setBus_trace : (setBus m d s).trace = s.trace := rfl
@[simp] theorem setBus_moves : (setBus m d s).moves = s.moves := rfl
@[simp] theorem setBus_hostData : (setBus m d s).hostData = s.hostData := rfl

end

/-! ### `accept` -/

section
variable (c : Byte)

@[simp] theorem accept_cmd : (accept c s).cmd = c := rfl
@[simp] theorem accept_arg0 : (accept c s).arg0 = s.arg0 := rfl
@[simp] theorem accept_arg1 : (accept c s).arg1 = s.arg1 := rfl
@[simp] theorem accept_arg2 : (accept c s).arg2 = s.arg2 := rfl
@[simp] theorem accept_arg3 : (accept c s).arg3 = s.arg3 := rfl
@[simp] theorem accept_resLo : (accept c s).resLo = 0 := rfl
@[simp] theorem accept_resHi : (accept c s).resHi = 0 := rfl
@[simp] theorem accept_busy : (accept c s).busy = true := rfl
@[simp] theorem accept_done : (accept c s).done = false := rfl
@[simp] theorem accept_mismatch : (accept c s).mismatch = false := rfl
@[simp] theorem accept_err : (accept c s).err = .noError := rfl
@[simp] theorem accept_chipState : (accept c s).chipState = s.chipState := rfl
@[simp] theorem accept_iface : (accept c s).iface = s.iface := rfl
@[simp] theorem accept_profile : (accept c s).profile = s.profile := rfl
@[simp] theorem accept_eraseRange : (accept c s).eraseRange = s.eraseRange := rfl
@[simp] theorem accept_writeCursor : (accept c s).writeCursor = s.writeCursor := rfl
@[simp] theorem accept_checksumAcc : (accept c s).checksumAcc = s.checksumAcc := rfl
@[simp] theorem accept_platform : (accept c s).platform = s.platform := rfl
@[simp] theorem accept_profileIn : (accept c s).profileIn = s.profileIn := rfl
@[simp] theorem accept_mapped : (accept c s).mapped = s.mapped := rfl
@[simp] theorem accept_dev : (accept c s).dev = s.dev := rfl
@[simp] theorem accept_ram : (accept c s).ram = s.ram := rfl
@[simp] theorem accept_collab : (accept c s).collab = s.collab := rfl
@[simp] theorem accept_forced : (accept c s).forced = s.forced := rfl
@[simp] theorem accept_txCount : (accept c s).txCount = s.txCount := rfl
@[simp] theorem accept_trace : (accept c s).trace = s.trace := rfl
@[simp] theorem accept_moves : (accept c s).moves = s.moves := rfl
@[simp] theorem accept_hostData : (accept c s).hostData = s.hostData := rfl

end

/-! ### `complete` -/

section
variable (v : DWord)

@[simp] theorem complete_cmd : (complete v s).cmd = s.cmd := rfl
@[simp] theorem complete_arg0 : (complete v s).arg0 = s.arg0 := rfl
@[simp] theorem complete_arg1 : (complete v s).arg1 = s.arg1 := rfl
@[simp] theorem complete_arg2 : (complete v s).arg2 = s.arg2 := rfl
@[simp] theorem complete_arg3 : (complete v s).arg3 = s.arg3 := rfl
@[simp] theorem complete_resLo : (complete v s).resLo = v.setWidth 32 := rfl
@[simp] theorem complete_resHi : (complete v s).resHi = v.extractLsb' 32 32 := rfl
@[simp] theorem complete_busy : (complete v s).busy = false := rfl
@[simp] theorem complete_done : (complete v s).done = true := rfl
@[simp] theorem complete_mismatch : (complete v s).mismatch = s.mismatch := rfl
@[simp] theorem complete_err : (complete v s).err = .noError := rfl
@[simp] theorem complete_chipState : (complete v s).chipState = s.chipState := rfl
@[simp] theorem complete_iface : (complete v s).iface = s.iface := rfl
@[simp] theorem complete_profile : (complete v s).profile = s.profile := rfl
@[simp] theorem complete_eraseRange : (complete v s).eraseRange = none := rfl
@[simp] theorem complete_writeCursor : (complete v s).writeCursor = none := rfl
@[simp] theorem complete_checksumAcc : (complete v s).checksumAcc = none := rfl
@[simp] theorem complete_platform : (complete v s).platform = s.platform := rfl
@[simp] theorem complete_profileIn : (complete v s).profileIn = s.profileIn := rfl
@[simp] theorem complete_mapped : (complete v s).mapped = s.mapped := rfl
@[simp] theorem complete_dev : (complete v s).dev = s.dev := rfl
@[simp] theorem complete_ram : (complete v s).ram = s.ram := rfl
@[simp] theorem complete_collab : (complete v s).collab = s.collab := rfl
@[simp] theorem complete_forced : (complete v s).forced = s.forced := rfl
@[simp] theorem complete_txCount : (complete v s).txCount = s.txCount := rfl
@[simp] theorem complete_trace : (complete v s).trace = s.trace := rfl
@[simp] theorem complete_moves : (complete v s).moves = s.moves := rfl
@[simp] theorem complete_hostData : (complete v s).hostData = s.hostData := rfl

end

/-! ### `raise` -/

section
variable (k : ErrKind)

@[simp] theorem raise_cmd : (raise k s).cmd = s.cmd := rfl
@[simp] theorem raise_arg0 : (raise k s).arg0 = s.arg0 := rfl
@[simp] theorem raise_arg1 : (raise k s).arg1 = s.arg1 := rfl
@[simp] theorem raise_arg2 : (raise k s).arg2 = s.arg2 := rfl
@[simp] theorem raise_arg3 : (raise k s).arg3 = s.arg3 := rfl
@[simp] theorem raise_resLo : (raise k s).resLo = 0 := rfl
@[simp] theorem raise_resHi : (raise k s).resHi = 0 := rfl
@[simp] theorem raise_busy : (raise k s).busy = false := rfl
@[simp] theorem raise_done : (raise k s).done = true := rfl
@[simp] theorem raise_mismatch : (raise k s).mismatch = false := rfl
@[simp] theorem raise_err : (raise k s).err = k := rfl
@[simp] theorem raise_chipState : (raise k s).chipState = if isBusKind k then .uninitialized else s.chipState := rfl
@[simp] theorem raise_iface : (raise k s).iface = s.iface := rfl
@[simp] theorem raise_profile : (raise k s).profile = s.profile := rfl
@[simp] theorem raise_eraseRange : (raise k s).eraseRange = none := rfl
@[simp] theorem raise_writeCursor : (raise k s).writeCursor = none := rfl
@[simp] theorem raise_checksumAcc : (raise k s).checksumAcc = none := rfl
@[simp] theorem raise_platform : (raise k s).platform = s.platform := rfl
@[simp] theorem raise_profileIn : (raise k s).profileIn = s.profileIn := rfl
@[simp] theorem raise_mapped : (raise k s).mapped = s.mapped := rfl
@[simp] theorem raise_dev : (raise k s).dev = s.dev := rfl
@[simp] theorem raise_ram : (raise k s).ram = s.ram := rfl
@[simp] theorem raise_collab : (raise k s).collab = s.collab := rfl
@[simp] theorem raise_forced : (raise k s).forced = s.forced := rfl
@[simp] theorem raise_txCount : (raise k s).txCount = s.txCount := rfl
@[simp] theorem raise_trace : (raise k s).trace = s.trace := rfl
@[simp] theorem raise_moves : (raise k s).moves = s.moves := rfl
@[simp] theorem raise_hostData : (raise k s).hostData = s.hostData := rfl

end

/-! ### `hardwareReset` -/

@[simp] theorem hardwareReset_cmd : (hardwareReset s).cmd = 0 := rfl
@[simp] theorem hardwareReset_arg0 : (hardwareReset s).arg0 = 0 := rfl
@[simp] theorem hardwareReset_arg1 : (hardwareReset s).arg1 = 0 := rfl
@[simp] theorem hardwareReset_arg2 : (hardwareReset s).arg2 = 0 := rfl
@[simp] theorem hardwareReset_arg3 : (hardwareReset s).arg3 = 0 := rfl
@[simp] theorem hardwareReset_resLo : (hardwareReset s).resLo = 0 := rfl
@[simp] theorem hardwareReset_resHi : (hardwareReset s).resHi = 0 := rfl
@[simp] theorem hardwareReset_busy : (hardwareReset s).busy = false := rfl
@[simp] theorem hardwareReset_done : (hardwareReset s).done = false := rfl
@[simp] theorem hardwareReset_mismatch : (hardwareReset s).mismatch = false := rfl
@[simp] theorem hardwareReset_err : (hardwareReset s).err = .noError := rfl
@[simp] theorem hardwareReset_chipState : (hardwareReset s).chipState = .uninitialized := rfl
@[simp] theorem hardwareReset_iface : (hardwareReset s).iface = resetInterface := rfl
@[simp] theorem hardwareReset_profile : (hardwareReset s).profile = blankProfile := rfl
@[simp] theorem hardwareReset_eraseRange : (hardwareReset s).eraseRange = none := rfl
@[simp] theorem hardwareReset_writeCursor : (hardwareReset s).writeCursor = none := rfl
@[simp] theorem hardwareReset_checksumAcc : (hardwareReset s).checksumAcc = none := rfl
@[simp] theorem hardwareReset_platform : (hardwareReset s).platform = s.platform := rfl
@[simp] theorem hardwareReset_profileIn : (hardwareReset s).profileIn = s.profileIn := rfl
@[simp] theorem hardwareReset_mapped : (hardwareReset s).mapped = s.mapped := rfl
@[simp] theorem hardwareReset_dev : (hardwareReset s).dev = s.dev := rfl
@[simp] theorem hardwareReset_ram : (hardwareReset s).ram = s.ram := rfl
@[simp] theorem hardwareReset_collab : (hardwareReset s).collab = s.collab := rfl
@[simp] theorem hardwareReset_forced : (hardwareReset s).forced = s.forced := rfl
@[simp] theorem hardwareReset_txCount : (hardwareReset s).txCount = s.txCount := rfl
@[simp] theorem hardwareReset_trace : (hardwareReset s).trace = s.trace := rfl
@[simp] theorem hardwareReset_moves : (hardwareReset s).moves = s.moves := rfl
@[simp] theorem hardwareReset_hostData : (hardwareReset s).hostData = s.hostData := rfl

end Sys2Proof.Machine
end

