-- ==== Sys2Proof/Laws/Ops.lean ====
section
/-! SUPPORT. What each shared operation can do: one inversion lemma per operation, what it does with an `Ok` oracle,
and the triple `Ends` with which a property is carried through the pseudocode of a command. -/

namespace Sys2Proof.Machine

/-! ### Sequencing -/

@[simp] theorem ok_bind {α β : Type} (a : α) (f : α → Except Stop β) : (Except.ok a >>= f) = f a := rfl

@[simp] theorem error_bind {α β : Type} (e : Stop) (f : α → Except Stop β) : (Except.error e >>= f) = Except.error e := rfl

/-- Where a piece of pseudocode can end: `P` on going on, `Q` on a `raise`, `R` on a transaction that is never
answered. -/
def Ends {α : Type} (P : α → Prop) (Q : ErrKind → State → Prop) (R : State → Prop) : Except Stop α → Prop
  | .ok a => P a
  | .error (.raised k s) => Q k s
  | .error (.unanswered s) => R s
  | .error (.faulted _) => True

@[simp] theorem ends_ok {α : Type} {P : α → Prop} {Q : ErrKind → State → Prop} {R : State → Prop} {a : α} :
    Ends P Q R (.ok a) ↔ P a := Iff.rfl

@[simp] theorem ends_raised {α : Type} {P : α → Prop} {Q : ErrKind → State → Prop} {R : State → Prop} {k : ErrKind}
    {s : State} : Ends P Q R (.error (.raised k s) : Except Stop α) ↔ Q k s := Iff.rfl

@[simp] theorem ends_unanswered {α : Type} {P : α → Prop} {Q : ErrKind → State → Prop} {R : State → Prop} {s : State} :
    Ends P Q R (.error (.unanswered s) : Except Stop α) ↔ R s := Iff.rfl

@[simp] theorem ends_faulted {α : Type} {P : α → Prop} {Q : ErrKind → State → Prop} {R : State → Prop} {f : Fault} :
    Ends P Q R (.error (.faulted f) : Except Stop α) ↔ True := Iff.rfl

theorem ends_bind {α β : Type} {M : α → Prop} {P : β → Prop} {Q : ErrKind → State → Prop} {R : State → Prop}
    {m : Except Stop α} {f : α → Except Stop β} (hm : Ends M Q R m) (hf : ∀ a, M a → Ends P Q R (f a)) :
    Ends P Q R (m >>= f) := by
  rcases m with ⟨⟨k, s⟩ | s | g⟩ | a
  · exact hm
  · exact hm
  · trivial
  · exact hf a hm

theorem ends_mono {α : Type} {P P' : α → Prop} {Q Q' : ErrKind → State → Prop} {R R' : State → Prop}
    {m : Except Stop α} (h : Ends P Q R m) (hP : ∀ a, P a → P' a) (hQ : ∀ k s, Q k s → Q' k s)
    (hR : ∀ s, R s → R' s) : Ends P' Q' R' m := by
  rcases m with ⟨⟨k, s⟩ | s | g⟩ | a
  · exact hQ k s h
  · exact hR s h
  · trivial
  · exact hP a h

/-- A next state of `finish` is an end state, an abort or a wait. -/
theorem finish_next {m : Except Stop State} {t : State} (h : finish m = .next t) :
    m = .ok t ∨ (∃ k s, m = .error (.raised k s) ∧ t = raise k s) ∨ m = .error (.unanswered t) := by
  rcases m with ⟨⟨k, s⟩ | s | g⟩ | a <;> simp [finish] at h
  · exact .inr (.inl ⟨k, s, rfl, h.symm⟩)
  · exact .inr (.inr (by rw [h]))
  · exact .inl (by rw [h])

/-- Everything `runCommand` can do on the way to a next state: reject, or run the pseudocode of an admitted command. -/
theorem runCommand_next {row : AdmissionRow} {body : State → Except Stop State} {s t : State}
    (h : runCommand row body s = .next t) :
    (admission row s.chipState = .admitted ∧ finish (body s) = .next t) ∨
      ∃ k, admission row s.chipState = .rejected k ∧ t = raise k s := by
  unfold runCommand at h
  split at h
  · exact .inl ⟨‹_›, h⟩
  · rename_i k hk
    exact .inr ⟨k, hk, by simpa using h.symm⟩
  · simp at h

theorem runCommand_admitted {row : AdmissionRow} {body : State → Except Stop State} {s : State}
    (h : admission row s.chipState = .admitted) : runCommand row body s = finish (body s) := by
  simp [runCommand, h]

theorem runCommand_rejected {row : AdmissionRow} {body : State → Except Stop State} {s : State} {k : ErrKind}
    (h : admission row s.chipState = .rejected k) : runCommand row body s = .next (raise k s) := by
  simp [runCommand, h]

/-- Through `runCommand` a property of the ends of the pseudocode becomes a property of the next state. -/
theorem runCommand_ends {row : AdmissionRow} {body : State → Except Stop State} {s t : State} {T : State → Prop}
    (h : runCommand row body s = .next t)
    (hrej : ∀ k, admission row s.chipState = .rejected k → T (raise k s))
    (hbody : admission row s.chipState = .admitted → Ends T (fun k u => T (raise k u)) T (body s)) : T t := by
  rcases runCommand_next h with ⟨ha, hf⟩ | ⟨k, hk, rfl⟩
  · have hb := hbody ha
    rcases finish_next hf with hm | ⟨k, u, hm, rfl⟩ | hm <;> rw [hm] at hb <;> exact hb
  · exact hrej k hk

/-! ### Transactions -/

/-- Everything a transaction can do: the issued transaction is recorded, the collaborator's answer decides. -/
theorem bus_cases (t : Txn) (s : State) :
    (∃ rx m d, answerTxn t s = (.ok rx, m, d) ∧ bus t s = .ok (setBus m d (logTxn t s))) ∨
    (∃ k m d, answerTxn t s = (.fail k, m, d) ∧ bus t s = .error (.raised (errOfFail k) (setBus m d (logTxn t s)))) ∨
    ∃ m d, answerTxn t s = (.never, m, d) ∧ bus t s = .error (.unanswered (setBus m d (logTxn t s))) := by
  unfold bus issue
  rcases h : answerTxn t s with ⟨rx | k | _, m, d⟩
  · exact .inl ⟨rx, m, d, rfl, rfl⟩
  · exact .inr (.inl ⟨k, m, d, rfl, rfl⟩)
  · exact .inr (.inr ⟨m, d, rfl, rfl⟩)

/-- Everything a `Receive(1)` can do. -/
theorem busReceiveByte_cases (s : State) :
    (∃ rx m d, answerTxn (.receive 1) s = (.ok rx, m, d) ∧
      busReceiveByte s = .ok (rx.getD 0 (Config.rxByte s.txCount 0), setBus m d (logTxn (.receive 1) s))) ∨
    (∃ k m d, answerTxn (.receive 1) s = (.fail k, m, d) ∧
      busReceiveByte s = .error (.raised (errOfFail k) (setBus m d (logTxn (.receive 1) s)))) ∨
    ∃ m d, answerTxn (.receive 1) s = (.never, m, d) ∧
      busReceiveByte s = .error (.unanswered (setBus m d (logTxn (.receive 1) s))) := by
  unfold busReceiveByte issue
  rcases h : answerTxn (.receive 1) s with ⟨rx | k | _, m, d⟩
  · exact .inl ⟨rx, m, d, rfl, rfl⟩
  · exact .inr (.inl ⟨k, m, d, rfl, rfl⟩)
  · exact .inr (.inr ⟨m, d, rfl, rfl⟩)

theorem bus_ends {P : State → Prop} {Q : ErrKind → State → Prop} {R : State → Prop} {t : Txn} {s : State}
    (hP : ∀ rx m d, answerTxn t s = (.ok rx, m, d) → P (setBus m d (logTxn t s)))
    (hQ : ∀ k m d, answerTxn t s = (.fail k, m, d) → Q (errOfFail k) (setBus m d (logTxn t s)))
    (hR : ∀ m d, answerTxn t s = (.never, m, d) → R (setBus m d (logTxn t s))) : Ends P Q R (bus t s) := by
  rcases bus_cases t s with ⟨rx, m, d, h, e⟩ | ⟨k, m, d, h, e⟩ | ⟨m, d, h, e⟩ <;> rw [e]
  · exact hP rx m d h
  · exact hQ k m d h
  · exact hR m d h

theorem busReceiveByte_ends {P : Byte × State → Prop} {Q : ErrKind → State → Prop} {R : State → Prop} {s : State}
    (hP : ∀ b rx m d, answerTxn (.receive 1) s = (.ok rx, m, d) → P (b, setBus m d (logTxn (.receive 1) s)))
    (hQ : ∀ k m d, answerTxn (.receive 1) s = (.fail k, m, d) → Q (errOfFail k) (setBus m d (logTxn (.receive 1) s)))
    (hR : ∀ m d, answerTxn (.receive 1) s = (.never, m, d) → R (setBus m d (logTxn (.receive 1) s))) :
    Ends P Q R (busReceiveByte s) := by
  rcases busReceiveByte_cases s with ⟨rx, m, d, h, e⟩ | ⟨k, m, d, h, e⟩ | ⟨m, d, h, e⟩ <;> rw [e]
  · exact hP _ rx m d h
  · exact hQ k m d h
  · exact hR m d h

/-- The answer of a transaction depends on the collaborator, the device and the latched profile alone. -/
theorem answerTxn_congr {t : Txn} {s s' : State} (h1 : s'.collab = s.collab) (h2 : s'.forced = s.forced)
    (h3 : s'.txCount = s.txCount) (h4 : s'.mapped = s.mapped) (h5 : s'.dev = s.dev) (h6 : s'.profile = s.profile) :
    answerTxn t s' = answerTxn t s := by
  simp only [answerTxn, oracleAnswer, forcedAnswer, h1, h2, h3, h4, h5, h6]

/-- An oracle leaves the device alone, and its answer is `oracleAnswer`. -/
theorem answerTxn_oracle {t : Txn} {s : State} (h : s.collab ≠ .reference) :
    answerTxn t s = (oracleAnswer s s.txCount, mappedAfter t (oracleAnswer s s.txCount) s.txCount s.mapped, s.dev) := by
  unfold answerTxn
  cases hc : s.collab <;> simp_all

/-- Every answer keeps the reference device's array canonical. -/
theorem answerTxn_flashWf {t : Txn} {s : State} {a : BusAnswer} {m : Bool} {d : RefDevice}
    (h : answerTxn t s = (a, m, d)) (hw : memWf (some erasedByte) s.dev.flash) : memWf (some erasedByte) d.flash := by
  have key : memWf (some erasedByte) (answerTxn t s).2.2.flash := by
    unfold answerTxn
    cases s.collab <;> try exact hw
    simp only
    have hstep : memWf (some erasedByte) (deviceStep s.profile t s.mapped s.dev).2.2.flash := by
      unfold deviceStep
      cases t with
      | busInit => exact hw
      | disableMemoryMap => exact hw
      | enableMemoryMap _ => exact hw
      | receive _ => exact hw
      | pollRegister q => simp only; split <;> (try split) <;> exact hw
      | transmit bs =>
        simp only [deviceTransmit]
        split
        · split
          · exact deviceProgram_wf _ _ _ hw
          · exact hw
        · split <;> exact hw
        · exact hw
      | sendCommand c =>
        simp only
        split
        · exact hw
        · unfold deviceCommand deviceEraseSector deviceEraseChip
          simp only
          repeat' split
          all_goals first
            | exact hw
            | exact memClear_wf _ _ hw
            | exact memWf_nil _
    rcases forcedAnswer s s.txCount with _ | ⟨_ | _ | _⟩
    · exact hstep
    · exact hstep
    · exact hw
    · exact hw
  rw [h] at key
  exact key

/-! ### An oracle that answers `Ok` -/

theorem oracleAnswer_congr {s s' : State} (h1 : s'.collab = s.collab) (h2 : s'.forced = s.forced) (n : Nat) :
    oracleAnswer s' n = oracleAnswer s n := by
  simp only [oracleAnswer, forcedAnswer, h1, h2]

theorem answersOk_congr {s s' : State} (h : AnswersOk s) (h1 : s'.collab = s.collab) (h2 : s'.forced = s.forced)
    (h3 : s.txCount ≤ s'.txCount) : AnswersOk s' :=
  ⟨by rw [h1]; exact h.1, fun n hn => by
    rw [oracleAnswer_congr h1 h2]
    exact h.2 n (Nat.le_trans h3 hn)⟩

theorem answerTxn_ok {t : Txn} {s : State} (h : AnswersOk s) :
    ∃ rx, oracleAnswer s s.txCount = .ok rx ∧ answerTxn t s = (.ok rx, mappedOk t s.mapped, s.dev) := by
  obtain ⟨rx, hrx⟩ := h.2 s.txCount (Nat.le_refl _)
  refine ⟨rx, hrx, ?_⟩
  rw [answerTxn_oracle h.1, hrx]
  unfold mappedAfter mappedOk
  cases ht : mapTarget t <;> simp

/-- With an `Ok` oracle a transaction goes on in the state after that output. -/
theorem bus_ok {t : Txn} {s : State} (h : AnswersOk s) : bus t s = .ok (afterEvent s (.bus t)) := by
  obtain ⟨rx, -, e⟩ := answerTxn_ok (t := t) h
  simp [bus, issue, e, afterEvent]

theorem busReceiveByte_ok {s : State} (h : AnswersOk s) :
    busReceiveByte s = .ok (receivedByte s s.txCount, afterEvent s (.bus (.receive 1))) := by
  obtain ⟨rx, hrx, e⟩ := answerTxn_ok (t := .receive 1) h
  simp [busReceiveByte, issue, e, afterEvent, receivedByte, hrx]

theorem afterEvents_nil (s : State) : afterEvents [] s = s := rfl

theorem afterEvents_cons (e : Event) (es : List Event) (s : State) :
    afterEvents (e :: es) s = afterEvents es (afterEvent s e) := rfl

theorem afterEvents_append (es fs : List Event) (s : State) :
    afterEvents (es ++ fs) s = afterEvents fs (afterEvents es s) := by
  simp [afterEvents]

/-- What a list of outputs changes: the trace, the count and the mapped flag; nothing else. -/
theorem afterEvents_frame (es : List Event) (s : State) :
    afterEvents es s =
      { s with
        trace := es.reverse ++ s.trace
        txCount := s.txCount + (es.filter isBusEvent).length
        mapped := (afterEvents es s).mapped } := by
  induction es generalizing s with
  | nil => rfl
  | cons e es ih =>
    rw [afterEvents_cons, ih]
    cases e with
    | bus t =>
      simp only [afterEvent, setBus, logTxn, isBusEvent, List.filter_cons, if_true, List.length_cons,
        List.reverse_cons, List.append_assoc, List.singleton_append]
      congr 1
      omega
    | memRead a n => simp [afterEvent, logRead, isBusEvent]

theorem afterEvents_answersOk {s : State} (es : List Event) (h : AnswersOk s) : AnswersOk (afterEvents es s) := by
  have e := afterEvents_frame es s
  refine answersOk_congr h ?_ ?_ ?_ <;> rw [e]
  exact Nat.le_add_right _ _

/-! ### An oracle that never answers one transaction -/

theorem neverAnswers_congr {s s' : State} {k : Nat} (h : NeverAnswers s k) (h1 : s'.collab = s.collab)
    (h2 : s'.forced = s.forced) (h3 : s'.txCount = s.txCount) : NeverAnswers s' k := by
  refine ⟨by rw [h1]; exact h.1, fun j hj => ?_, ?_⟩ <;> rw [oracleAnswer_congr h1 h2, h3]
  · exact h.2.1 j hj
  · exact h.2.2

/-- A transaction before the one that is never answered goes on. -/
theorem bus_answered {t : Txn} {s : State} {k : Nat} (h : NeverAnswers s (k + 1)) :
    bus t s = .ok (afterEvent s (.bus t)) ∧ NeverAnswers (afterEvent s (.bus t)) k := by
  refine ⟨?_, h.1, fun j hj => ?_, ?_⟩
  · obtain ⟨rx, hrx⟩ := h.2.1 0 (Nat.succ_pos k)
    rw [Nat.add_zero] at hrx
    have e : answerTxn t s = (.ok rx, mappedOk t s.mapped, s.dev) := by
      rw [answerTxn_oracle h.1, hrx]
      unfold mappedAfter mappedOk
      cases mapTarget t <;> rfl
    simp [bus, issue, e, afterEvent]
  · obtain ⟨rx, hrx⟩ := h.2.1 (j + 1) (Nat.succ_lt_succ hj)
    exact ⟨rx, by rw [← hrx, show s.txCount + (j + 1) = s.txCount + 1 + j by omega]; rfl⟩
  · rw [← h.2.2, show s.txCount + (k + 1) = s.txCount + 1 + k by omega]
    rfl

/-- The transaction that is never answered is issued, and the command waits. -/
theorem bus_unanswered {t : Txn} {s : State} (h : NeverAnswers s 0) (ht : mapTarget t = none) :
    bus t s = .error (.unanswered (afterEvent s (.bus t))) := by
  have hn := h.2.2
  rw [Nat.add_zero] at hn
  simp [bus, issue, answerTxn_oracle h.1, hn, mappedAfter, afterEvent, mappedOk, ht]

/-! ### System memory -/

/-- What a `MemRead` depends on. -/
theorem memByte_congr {s s' : State} (h1 : s'.ram = s.ram) (h2 : s'.mapped = s.mapped) (h3 : s'.platform = s.platform)
    (h4 : s'.profile.flashSizeBytes = s.profile.flashSizeBytes) (h5 : s'.collab = s.collab)
    (h6 : s'.txCount = s.txCount) (h7 : s'.dev.flash = s.dev.flash) (a : Nat) : memByte s' a = memByte s a := by
  have hw : inWindow s' a = inWindow s a := by simp only [inWindow, h3, h4]
  have hb : ∀ o, windowByte s' o = windowByte s o := fun o => by unfold windowByte; rw [h5, h6, h7]
  have hr : inRam s' a = inRam s a := by simp only [inRam, h3]
  simp only [memByte, hw, hr, hb, h1, h2, h3]

/-- A byte of RAM, outside the window, reads the same whatever the bus does. -/
theorem memByte_ram {s : State} {a : Nat} (hw : inWindow s a = false) (hr : inRam s a = true) :
    memByte s a = .ok (ramGet s.ram a) := by
  simp [memByte, hw, hr]

/-- Outside the window and RAM an address has no value. -/
theorem memByte_unbacked {s : State} {a : Nat} (hw : inWindow s a = false) (hr : inRam s a = false) :
    memByte s a = .error (.unbackedRead a) := by
  simp [memByte, hw, hr]

/-- Outside the window a `MemRead` depends on RAM alone. -/
theorem memByte_congr_ram {s s' : State} (h1 : s'.ram = s.ram) (h2 : s'.platform = s.platform)
    (h3 : s'.profile.flashSizeBytes = s.profile.flashSizeBytes) {a : Nat} (hw : inWindow s a = false) :
    memByte s' a = memByte s a := by
  have hw' : inWindow s' a = false := by rw [← hw]; simp only [inWindow, h2, h3]
  have hr : inRam s' a = inRam s a := by simp only [inRam, h2]
  cases h : inRam s a
  · rw [memByte_unbacked hw h, memByte_unbacked hw' (hr.trans h)]
  · rw [memByte_ram hw h, memByte_ram hw' (hr.trans h), h1]

/-- Everything a byte `MemRead` can do: it goes on and is recorded, or it is not admitted. -/
theorem readByte_cases (a : Nat) (s : State) :
    (∃ b, memByte s a = .ok b ∧ readByte a s = .ok (b, logRead a 1 s)) ∨
      ∃ f, memByte s a = .error f ∧ readByte a s = .error (.faulted f) := by
  unfold readByte
  rcases memByte s a with f | b
  · exact .inr ⟨f, rfl, rfl⟩
  · exact .inl ⟨b, rfl, rfl⟩

/-- Everything a word `MemRead` can do. -/
theorem readWord_cases (a : Nat) (s : State) :
    (∃ w, memWord s a = .ok w ∧ readWord a s = .ok (w, logRead a 4 s)) ∨
      ∃ f, memWord s a = .error f ∧ readWord a s = .error (.faulted f) := by
  unfold readWord
  rcases memWord s a with f | w
  · exact .inr ⟨f, rfl, rfl⟩
  · exact .inl ⟨w, rfl, rfl⟩

theorem readByte_ends {P : Byte × State → Prop} {Q : ErrKind → State → Prop} {R : State → Prop} {a : Nat} {s : State}
    (h : ∀ b, memByte s a = .ok b → P (b, logRead a 1 s)) : Ends P Q R (readByte a s) := by
  rcases readByte_cases a s with ⟨b, hb, e⟩ | ⟨f, -, e⟩ <;> rw [e]
  · exact h b hb
  · trivial

theorem readWord_ends {P : Word × State → Prop} {Q : ErrKind → State → Prop} {R : State → Prop} {a : Nat} {s : State}
    (h : ∀ w, memWord s a = .ok w → P (w, logRead a 4 s)) : Ends P Q R (readWord a s) := by
  rcases readWord_cases a s with ⟨w, hw, e⟩ | ⟨f, -, e⟩ <;> rw [e]
  · exact h w hw
  · trivial

/-- `requireRange` goes on unchanged or raises `InvalidRange`. -/
theorem requireRange_ends {P : State → Prop} {Q : ErrKind → State → Prop} {R : State → Prop} {b : Bool} {s : State}
    (hok : b = true → P s) (hno : b = false → Q .invalidRange s) : Ends P Q R (requireRange b s) := by
  unfold requireRange
  split
  · exact hok ‹_›
  · exact hno (by simpa using ‹¬ b = true›)

end Sys2Proof.Machine
end

