-- ==== Sys2Proof/Laws/Protocol.lean ====
section
/-! SUPPORT. What each operation of the Flash Command Protocol does with an `Ok` oracle: it goes on in the state after
its list of outputs. -/

namespace Sys2Proof.Machine

/-- The outputs are built from the profile, the platform record and `InterfaceState` alone. -/
structure SameSettings (s s' : State) : Prop where
  profile : s'.profile = s.profile
  platform : s'.platform = s.platform
  iface : s'.iface = s.iface

theorem sameSettings_refl (s : State) : SameSettings s s := ⟨rfl, rfl, rfl⟩

theorem sameSettings_trans {s s' s'' : State} (h : SameSettings s s') (h' : SameSettings s' s'') : SameSettings s s'' :=
  ⟨h'.profile.trans h.profile, h'.platform.trans h.platform, h'.iface.trans h.iface⟩

theorem sameSettings_afterEvents (es : List Event) (s : State) : SameSettings s (afterEvents es s) := by
  have e := afterEvents_frame es s
  exact ⟨by rw [e], by rw [e], by rw [e]⟩

theorem plainCommand_congr {s s' : State} (h : SameSettings s s') (op : Byte) (d : Lines) :
    plainCommand s' op d = plainCommand s op d := by
  simp only [plainCommand, currentLines, h.iface]

theorem addressCommand_congr {s s' : State} (h : SameSettings s s') (op : Byte) (d : Lines) (o : Nat) :
    addressCommand s' op d o = addressCommand s op d o := by
  simp only [addressCommand, addressField, currentLines, h.iface]

theorem statusPoll_congr {s s' : State} (h : SameSettings s s') (a b : Byte) (t : Word) :
    statusPoll s' a b t = statusPoll s a b t := by
  simp only [statusPoll, currentLines, h.iface, h.profile]

theorem welPoll_congr {s s' : State} (h : SameSettings s s') : welPoll s' = welPoll s := by
  simp only [welPoll, statusPoll_congr h, h.platform]

theorem readyPoll_congr {s s' : State} (h : SameSettings s s') (t : Word) : readyPoll s' t = readyPoll s t :=
  statusPoll_congr h _ _ _

theorem writeEnableOutputs_congr {s s' : State} (h : SameSettings s s') :
    writeEnableOutputs s' = writeEnableOutputs s := by
  simp only [writeEnableOutputs, plainCommand_congr h, welPoll_congr h, h.profile]

theorem eraseSectorOutputs_congr {s s' : State} (h : SameSettings s s') (a : Nat) :
    eraseSectorOutputs s' a = eraseSectorOutputs s a := by
  simp only [eraseSectorOutputs, writeEnableOutputs_congr h, addressCommand_congr h, readyPoll_congr h, eraseOpcode,
    h.profile, h.iface]

theorem programChunkOutputs_congr {s s' : State} (h : SameSettings s s') (o n : Nat) (data : List Byte) :
    programChunkOutputs s' o n data = programChunkOutputs s o n data := by
  simp only [programChunkOutputs, writeEnableOutputs_congr h, addressCommand_congr h, readyPoll_congr h, programOpcode,
    currentLines, h.profile, h.iface]

/-- `chipState` and `InterfaceState` pass through outputs unchanged. -/
theorem afterEvents_setChip (es : List Event) (c : ChipState) (s : State) :
    afterEvents es (setChip c s) = setChip c (afterEvents es s) := by
  induction es generalizing s with
  | nil => rfl
  | cons e es ih =>
    cases e with
    | bus t => exact ih (afterEvent s (.bus t))
    | memRead a n => exact ih (afterEvent s (.memRead a n))

theorem afterEvents_setIface (es : List Event) (f : InterfaceState) (s : State) :
    afterEvents es (setIface f s) = setIface f (afterEvents es s) := by
  induction es generalizing s with
  | nil => rfl
  | cons e es ih =>
    cases e with
    | bus t => exact ih (afterEvent s (.bus t))
    | memRead a n => exact ih (afterEvent s (.memRead a n))

theorem afterEvents_setWriteCursor (es : List Event) (w : WriteCursor) (s : State) :
    afterEvents es (setWriteCursor w s) = setWriteCursor w (afterEvents es s) := by
  induction es generalizing s with
  | nil => rfl
  | cons e es ih =>
    cases e with
    | bus t => exact ih (afterEvent s (.bus t))
    | memRead a n => exact ih (afterEvent s (.memRead a n))

theorem afterEvents_setEraseRange (es : List Event) (r : EraseRange) (s : State) :
    afterEvents es (setEraseRange r s) = setEraseRange r (afterEvents es s) := by
  induction es generalizing s with
  | nil => rfl
  | cons e es ih =>
    cases e with
    | bus t => exact ih (afterEvent s (.bus t))
    | memRead a n => exact ih (afterEvent s (.memRead a n))

@[simp] theorem setChip_setChip (c c' : ChipState) (s : State) : setChip c (setChip c' s) = setChip c s := rfl

@[simp] theorem setIface_setIface (f f' : InterfaceState) (s : State) : setIface f (setIface f' s) = setIface f s := rfl

theorem setChip_self {c : ChipState} {s : State} (h : s.chipState = c) : setChip c s = s := by
  subst h
  rfl

theorem answersOk_setChip {c : ChipState} {s : State} (h : AnswersOk s) : AnswersOk (setChip c s) := h

theorem answersOk_setIface {f : InterfaceState} {s : State} (h : AnswersOk s) : AnswersOk (setIface f s) := h

theorem answersOk_afterEvent {e : Event} {s : State} (h : AnswersOk s) : AnswersOk (afterEvent s e) :=
  afterEvents_answersOk [e] h

theorem bus_ok' {t : Txn} {s : State} (h : AnswersOk s) : bus t s = .ok (afterEvents [.bus t] s) := bus_ok h

theorem doWriteEnable_ok {s : State} (h : AnswersOk s) :
    doWriteEnable s = .ok (afterEvents (writeEnableOutputs s) s) := by
  simp only [doWriteEnable, bus_ok h, ok_bind, bus_ok (answersOk_afterEvent h)]
  rfl

theorem doPollReady_ok {t : Word} {s : State} (h : AnswersOk s) :
    doPollReady t s = .ok (afterEvents [.bus (readyPoll s t)] s) := bus_ok h

theorem doEraseSector_ok {a : Nat} {s : State} (h : AnswersOk s) :
    doEraseSector a s = .ok (setChip .idle (afterEvents (eraseSectorOutputs s a) s)) := by
  have hA : ∀ es, AnswersOk (afterEvents es s) := fun es => afterEvents_answersOk es h
  have hS : ∀ es, SameSettings s (setChip .erasing (afterEvents es s)) := fun es =>
    let e := sameSettings_afterEvents es s
    ⟨e.profile, e.platform, e.iface⟩
  simp only [doEraseSector, doWriteEnable_ok h, ok_bind, bus_ok' (answersOk_setChip (hA _)), doPollReady,
    afterEvents_setChip, ← afterEvents_append, setChip_setChip, addressCommand_congr (hS _), readyPoll_congr (hS _),
    eraseOpcode, (hS _).profile, (hS _).iface]
  simp only [eraseSectorOutputs, eraseOpcode, List.append_assoc, List.singleton_append]

theorem doEraseChip_ok {s : State} (h : AnswersOk s) :
    doEraseChip s = .ok (setChip .idle (afterEvents (eraseChipOutputs s) s)) := by
  have hA : ∀ es, AnswersOk (afterEvents es s) := fun es => afterEvents_answersOk es h
  have hS : ∀ es, SameSettings s (setChip .erasing (afterEvents es s)) := fun es =>
    let e := sameSettings_afterEvents es s
    ⟨e.profile, e.platform, e.iface⟩
  simp only [doEraseChip, doWriteEnable_ok h, ok_bind, bus_ok' (answersOk_setChip (hA _)), doPollReady,
    afterEvents_setChip, ← afterEvents_append, setChip_setChip, plainCommand_congr (hS _), readyPoll_congr (hS _),
    (hS _).profile]
  simp only [eraseChipOutputs, List.append_assoc, List.singleton_append]

theorem doMapEnable_ok {s : State} (h : s.chipState = .memoryMapped ∨ AnswersOk s) :
    doMapEnable s = .ok (mapEntered s) := by
  by_cases hc : s.chipState = .memoryMapped
  · simp [doMapEnable, mapEntered, mapEnableOutputs, hc, afterEvents_nil, setChip_self hc]
  · have h : AnswersOk s := h.resolve_left hc
    simp [doMapEnable, mapEntered, mapEnableOutputs, hc, bus_ok h, afterEvents]

theorem doMapDisable_ok {s : State} (h : AnswersOk s) :
    doMapDisable s = .ok (setChip .idle (afterEvents [.bus .disableMemoryMap] s)) := by
  simp only [doMapDisable, bus_ok h, ok_bind]
  rfl

theorem sendResetRounds_ok (rs : List Lines) {s : State} (h : AnswersOk s) :
    sendResetRounds rs s = .ok (afterEvents (rs.flatMap fun r =>
      [Event.bus (resetCommand s.profile.opResetEnable r), Event.bus (resetCommand s.profile.opResetExecute r)]) s) := by
  induction rs generalizing s with
  | nil => rfl
  | cons r rs ih =>
    have h1 : AnswersOk (afterEvent s (.bus (resetCommand s.profile.opResetEnable r))) := answersOk_afterEvent h
    simp only [sendResetRounds, bus_ok h, ok_bind, bus_ok h1, ih (answersOk_afterEvent h1), List.flatMap_cons,
      afterEvents_append]
    rfl

theorem doReset_ok {s : State} (h : AnswersOk s) :
    doReset s = .ok (setChip .reset (setIface resetInterface (afterEvents (resetOutputs s) s))) := by
  simp only [doReset, sendResetRounds_ok _ h, ok_bind]
  rfl

theorem readRegister_ok {op : Byte} {s : State} (h : AnswersOk s) :
    readRegister op s = .ok (receivedByte s (s.txCount + 1),
      afterEvents [.bus (plainCommand s op (currentLines s)), .bus (.receive 1)] s) := by
  simp only [readRegister, bus_ok h, ok_bind, busReceiveByte_ok (answersOk_afterEvent h)]
  rfl

theorem writeRegister_ok {op : Byte} {bs : List Byte} {s : State} (h : AnswersOk s) :
    writeRegister op bs s =
      .ok (afterEvents [.bus (plainCommand s op (currentLines s)), .bus (.transmit bs)] s) := by
  simp only [writeRegister, bus_ok h, ok_bind, bus_ok (answersOk_afterEvent h)]
  rfl

/-- The multi-line step of `Configure()` with an `Ok` oracle. -/
theorem enterMultiLine_ok {s : State} (h : AnswersOk s) :
    enterMultiLine s = .ok (setIface (configuredIface s) (afterEvents
      (if s.profile.configuredMode = .single then []
        else (if s.profile.addressWidthBits = .w32 then [Event.bus (plainCommand s s.profile.opEnter4Byte .absent)] else []) ++
          [Event.bus (plainCommand s s.profile.opEnterMode .absent)]) s)) := by
  by_cases hm : s.profile.configuredMode = .single
  · simp only [enterMultiLine, configuredIface, hm, ne_eq, not_true_eq_false, if_false, if_true]
    rfl
  · by_cases hw : s.profile.addressWidthBits = .w32
    · have h1 : AnswersOk (setAddrWidth .w32 (afterEvent s (.bus (plainCommand s s.profile.opEnter4Byte .absent)))) :=
        answersOk_afterEvent h
      simp only [enterMultiLine, enterFourByte, configuredIface, hm, hw, ne_eq, not_false_eq_true, if_true, if_false,
        bus_ok h, ok_bind, bus_ok h1]
      rfl
    · simp only [enterMultiLine, enterFourByte, configuredIface, hm, hw, ne_eq, not_false_eq_true, if_true, if_false,
        ok_bind, bus_ok h]
      rfl

/-- `Configure()` with an `Ok` oracle. -/
theorem doConfigure_ok {s : State} (h : AnswersOk s) :
    doConfigure s = .ok (setChip .configured (setIface (configuredIface s) (afterEvents
      (configureOutputs s (receivedByte s (s.txCount + 1)) (receivedByte s (s.txCount + 3))) s))) := by
  have hA : ∀ es, AnswersOk (afterEvents es s) := fun es => afterEvents_answersOk es h
  have hS : ∀ es, SameSettings s (afterEvents es s) := fun es => sameSettings_afterEvents es s
  have hB : ∀ n t2 u, receivedByte (afterEvents [Event.bus t2, Event.bus u] s) n = receivedByte s n := fun n t2 u => rfl
  simp only [doConfigure, readRegister_ok h, ok_bind, readRegister_ok (hA _), ← afterEvents_append,
    doWriteEnable_ok (hA _), writeRegister_ok (hA _), doPollReady_ok (hA _), enterMultiLine_ok (hA _)]
  simp only [plainCommand_congr (hS _), writeEnableOutputs_congr (hS _), readyPoll_congr (hS _), currentLines,
    (hS _).profile, (hS _).platform, (hS _).iface, hB, configuredIface]
  by_cases hw : s.profile.hasWrap = true
  · have h2 : ∀ es f, AnswersOk (setIface f (afterEvents es s)) := fun es f => answersOk_setIface (hA es)
    simp only [disableWrap, setIface_profile, (hS _).profile, hw, if_true, writeRegister_ok (h2 _ _), ok_bind,
      afterEvents_setIface, ← afterEvents_append]
    simp only [plainCommand, currentLines, setIface_iface, configureOutputs, configuredIface, hw, if_true]
    rfl
  · simp only [Bool.not_eq_true] at hw
    simp only [disableWrap, setIface_profile, (hS _).profile, hw]
    simp only [configureOutputs, configuredIface, hw, currentLines]
    simp
    rfl

end Sys2Proof.Machine
end

