-- ==== Sys2Proof/Tests/Slice0.lean ====
section
/-! SUPPORT. The model's own tests: decoding of words written out from 30_encoding.md R91, the checks of
WellFormed.lean, one or two steps per command against the vectors of 95_test_vectors.md, and a witness for the
hypotheses of every statement of Certificates/Slice0/Obligations.lean. -/

namespace Sys2Proof.Tests

open Sys2Proof.Machine

/-! ### Fixtures (95_test_vectors.md section 1) -/

/-- Test profile `TP`. -/
def tp : DeviceProfile where
  flashSizeBytes := 0x10000
  pageSizeBytes := 256
  sectorSizeBytes := 0x1000
  blockSizeBytes := none
  opWriteEnable := 0x06
  opReadStatus := 0x05
  opEraseSector := 0x20
  opEraseSector4B := 0x21
  opEraseChip := 0xC7
  opPageProgram := 0x02
  opPageProgram4B := 0x12
  opEnterMode := 0x35
  opFastRead := ⟨0x0B, 0xEB, 0xEC⟩
  dummyCycles := ⟨8, 6, 20⟩
  maxEraseTimeoutMs := 460000
  sectorEraseTimeoutMs := 1000
  programTimeoutMs := 100
  addressWidthBits := .w24
  opResetEnable := 0x66
  opResetExecute := 0x99
  multiLineReset := false
  opReadConfig := 0x15
  opWriteStatus := 0x01
  srOrMask := 0x40
  crOrMask := 0x00
  configuredMode := .single
  configuredRate := .normal
  opEnter4Byte := 0xB7
  hasWrap := false
  opWrapDisable := 0xC0
  wrapDisableData := 0x10

/-- Test profile `TQ`. -/
def tq : DeviceProfile :=
  { tp with
    flashSizeBytes := 0x02000000
    addressWidthBits := .w32
    configuredMode := .quad
    multiLineReset := true
    hasWrap := true
    crOrMask := 0xC0 }

/-- Platform record `PL`; the vectors put RAM wherever they read it. -/
def pl : Platform := ⟨0x0000FFFF, 0x90000000, true, 100, [⟨0, 2 ^ 32⟩]⟩

/-- Platform record `PLQ`. -/
def plq : Platform := { pl with addrMask := 0x01FFFFFF }

/-- The reference device with a profile latched and `chipState` as given. -/
def fixture (p : DeviceProfile) (q : Platform) (c : ChipState) : State :=
  { State.reset with
    platform := q
    profileIn := p
    profile := p
    chipState := c
    mapped := decide (c = .memoryMapped)
    collab := .reference }

/-- A small RAM of rising bytes from an address. -/
def bytesFrom (a : Nat) (bs : List Byte) : Memory := bs.mapIdx fun i b => (a + i, b)

/-- A view of the next state, or none where the step stops. -/
def onNext {α : Type} (f : State → α) : Host.Outcome State Fault Refusal → Option α
  | .next s => some (f s)
  | .fault _ => none
  | .refused _ => none

/-- `STATUS`, `RES` and the number of transactions. -/
def summary (s : State) : Word × DWord × Nat := (statusWord s, resultWord s, s.txCount)

/-- The host writes `v` to `CMD` with the argument registers given, and the machine steps once. -/
def issueFrom (s : State) (v a0 a1 a2 a3 : Word) : Host.Outcome State Fault Refusal :=
  step (placeCommand ⟨v, a0, a1, a2, a3⟩ s)

/-! ### Decoding (30 R91, R93, R99) -/

theorem test_decode_init : decodeTableWord 8 0b00000001 = some .init := by decide
theorem test_decode_write :
    decode ⟨0x00000002, 0x900000FA, 20, 0x20000000, 0⟩ = .ok (.write 0x900000FA 20 0x20000000) := by decide
theorem test_decode_sector_erase : decodeTableWord 8 0b00000011 = some (.sectorErase 0 0) := by decide
theorem test_decode_mass_erase : decode ⟨0x00000004, 0xDEADBEEF, 0, 0, 0⟩ = .ok (.massErase 0xDEADBEEF) := by decide
theorem test_decode_checksum : decodeTableWord 160 (5 + 7 * 2 ^ 32 + 8 * 2 ^ 64 + 9 * 2 ^ 96) =
    some (.checksum 7 8 9) := by decide
theorem test_decode_verify_nibbles :
    decode ⟨0x00000006, 1, 2, 3, 0xFFF3FFF5⟩ = .ok (.verify 1 2 3 5 3) := by decide
theorem test_decode_reset : decodeTableWord 8 0b00010000 = some .reset := by decide
theorem test_decode_write_enable : decodeTableWord 8 0b00010001 = some .writeEnable := by decide
theorem test_decode_poll_ready : decode ⟨0x00000012, 1000, 0, 0, 0⟩ = .ok (.pollReady 1000) := by decide
theorem test_decode_configure : decodeTableWord 8 0b00010011 = some .configure := by decide
theorem test_decode_erase_sector : decode ⟨0x00000014, 0x2000, 0, 0, 0⟩ = .ok (.eraseSector 0x2000) := by decide
theorem test_decode_erase_chip : decodeTableWord 8 0b00010101 = some .eraseChip := by decide
theorem test_decode_mmap_enable : decodeTableWord 8 0b00010110 = some .mmapEnable := by decide
theorem test_decode_high_bits_ignored : decode ⟨0xABCDEF17, 0, 0, 0, 0⟩ = .ok .mmapDisable := by decide
theorem test_decode_illegal :
    decodeTableWord 8 0x00 = none ∧ decodeTableWord 8 0x07 = none ∧ decodeTableWord 8 0x0F = none ∧
      decodeTableWord 8 0x18 = none ∧ decodeTableWord 8 0xFF = none := by decide
theorem test_encode_verify : encode (.verify 1 2 3 5 3) = ⟨6, 1, 2, 3, 0x00030005⟩ := by decide

/-! ### WellFormed: a term that each check refuses (10 R27, 20 R54) -/

theorem test_tp_legal : tp.legal = true := by decide
theorem test_tq_legal : tq.legal = true := by decide
theorem test_no_flash_refused : DeviceProfile.legal { tp with flashSizeBytes := 0 } = false := by decide
theorem test_large_flash_refused : DeviceProfile.legal { tp with flashSizeBytes := 2 ^ 32 + 1 } = false := by decide
theorem test_no_page_refused : DeviceProfile.legal { tp with pageSizeBytes := 0 } = false := by decide
theorem test_no_sector_refused : DeviceProfile.legal { tp with sectorSizeBytes := 0 } = false := by decide
theorem test_wide_sector_refused : DeviceProfile.legal { tp with sectorSizeBytes := 2 ^ 32 } = false := by decide
theorem test_no_block_refused : DeviceProfile.legal { tp with blockSizeBytes := some 0 } = false := by decide
theorem test_single_32_refused : DeviceProfile.legal { tp with addressWidthBits := .w32 } = false := by decide
theorem test_platform_legal : pl.legal tp = true ∧ plq.legal tq = true := by decide
theorem test_base_unaligned_refused : Platform.legal { pl with mmapBase := 0x90000001 } tp = false := by decide
theorem test_window_too_high_refused :
    Platform.legal { pl with mmapBase := 0xFFFF0000, addrMask := 0xFFFF } { tp with flashSizeBytes := 0x10001 } =
      false := by decide

theorem test_ram_too_high_refused :
    Platform.legal { pl with ramRegions := [⟨0x20000000, 0x1000⟩, ⟨0xFFFFFFFF, 2⟩] } tp = false := by decide

/-! ### Encodings (95 section 9, 10 R24) -/

theorem test_address_mode_code : addrModeCode ⟨.l4, .w32⟩ = 0b101 := by decide

theorem test_status_bits :
    statusWord { State.reset with done := true, mismatch := true, chipState := .memoryMapped } = 0x606 ∧
      statusWord { State.reset with done := true, chipState := .idle, iface := ⟨.quad, .normal, .w32⟩ } = 0x9302 ∧
      (statusWord { State.reset with iface := ⟨.octal, .double, .w24⟩ }) = 0x6000 := by
  decide

/-! ### Commands -/

theorem test_write_before_init :
    onNext summary (issueFrom (fixture tp pl .uninitialized) 2 0x90000000 4 0x20000000 0) =
      some (0x52, 0, 0) := by decide

theorem test_illegal_code :
    onNext summary (issueFrom (fixture tp pl .idle) 7 0 0 0 0) = some (0x362, 0, 0) := by decide

theorem test_init_tp :
    onNext summary (issueFrom (fixture tp pl .uninitialized) 1 0 0 0 0) = some (0x602, 1, 14) := by decide

theorem test_init_tq :
    onNext summary (issueFrom (fixture tq plq .uninitialized) 1 0 0 0 0) = some (0x9602, 1, 22) := by decide

theorem test_init_enter_mode_fails :
    onNext summary (issueFrom { fixture tq plq .uninitialized with forced := [(18, .fail .busError)] } 1 0 0 0 0) =
      some (0x8012, 0, 19) := by decide

/-- Sixteen bytes `0x10 + i` at `0x2000 + i` (95 section 5). -/
def checksumRam : State :=
  { fixture tp pl .memoryMapped with
    ram := bytesFrom 0x2000 [0x10, 0x11, 0x12, 0x13, 0x14, 0x15, 0x16, 0x17, 0x18, 0x19, 0x1A, 0x1B, 0x1C, 0x1D, 0x1E, 0x1F] }

/-- 95 section 5: the range whose literal reading (90 C1) would give 0x36. -/
theorem test_checksum_unaligned :
    onNext summary (issueFrom checksumRam 5 0x2001 4 0 0) = some (0x602, 0x4A, 0) := by decide

theorem test_checksum_wraps :
    onNext summary (issueFrom checksumRam 5 0x2003 6 0xFFFFFFF0 0) = some (0x602, 0x71, 0) := by decide

/-- The flash and RAM of the example of 42 R173. -/
def verifyState : State :=
  { fixture tp pl .memoryMapped with
    dev := ⟨bytesFrom 0x100 [0x10, 0x11, 0x12, 0x13, 0x14, 0x15, 0x16, 0x17, 0x00], 0, 0, .absent⟩
    ram := bytesFrom 0x20000000 [0x10, 0x11, 0x12, 0x13, 0x14, 0xFF, 0x16, 0x17] }

theorem test_verify_first_mismatch :
    onNext (fun t => (summary t, t.trace.length)) (issueFrom verifyState 6 0x90000100 0x20000000 2 0) =
      some ((0x606, 0x0000009C90000105, 0), 14) := by decide

theorem test_verify_extra_skips :
    onNext resultWord (exec (.verify 0x90000100 0x20000000 1 1 0) verifyState) = some 0x0000004A00000000 ∧
      onNext resultWord (exec (.verify 0x90000100 0x20000000 1 0 5) verifyState) = some 0 := by decide

/-- RAM bytes `A0, A1, ...` (95, `RAMA`) and an idle reference device whose array starts with `00`. -/
def writeState (c : ChipState) : State :=
  { fixture tp pl c with
    ram := bytesFrom 0x20000000 [0xA0, 0xA1, 0xA2, 0xA3, 0xA4, 0xA5, 0xA6, 0xA7, 0xA8, 0xA9]
    dev := ⟨[(0xFD, 0x00)], 0, 0, .absent⟩ }

/-- The page split of 95 S1 on ten bytes: six before the boundary, four after it; programming ANDs (20 R75). -/
theorem test_write_splits :
    onNext (fun t => (summary t, t.dev.flash.map Prod.snd, t.dev.flash.map Prod.fst))
        (issueFrom (writeState .memoryMapped) 2 0x900000FA 10 0x20000000 0) =
      some ((0x302, 1, 11), [0xA0, 0xA1, 0xA2, 0x00, 0xA4, 0xA5, 0xA6, 0xA7, 0xA8, 0xA9],
        [0xFA, 0xFB, 0xFC, 0xFD, 0xFE, 0xFF, 0x100, 0x101, 0x102, 0x103]) := by decide

/-- 95 section 7. -/
theorem test_write_out_of_range :
    onNext summary (issueFrom (writeState .memoryMapped) 2 0x9000FFF0 0x11 0x20000000 0) = some (0x632, 0, 0) := by
  decide

/-- The example of 43 R191. -/
theorem test_sector_erase_two :
    onNext (fun t => (summary t, t.dev.flash)) (issueFrom (writeState .memoryMapped) 3 0x90000FF0 0x90001010 0 0) =
      some ((0x302, 1, 9), []) := by decide

/-- 43 R194 (b) and (c). -/
theorem test_sector_erase_reversed :
    onNext summary (issueFrom (writeState .idle) 3 0x2000 0x1FFF 0 0) = some (0x302, 1, 1) ∧
      onNext summary (issueFrom (writeState .idle) 3 0x2800 0x2400 0 0) = some (0x302, 1, 5) := by decide

/-- 95 section 7: the latch poll times out, the erase opcode is never sent. -/
theorem test_mass_erase_timeout :
    onNext (fun t => (summary t, t.dev.flash.length))
        (issueFrom { writeState .memoryMapped with forced := [(2, .fail .timeout)] } 4 0 0 0 0) =
      some ((0x22, 0, 3), 1) := by decide

theorem test_reset_fails :
    onNext summary (issueFrom
        { fixture tq plq .configured with iface := ⟨.quad, .normal, .w32⟩, forced := [(1, .fail .busError)] }
        0x10 0 0 0 0) = some (0x9012, 0, 2) := by decide

theorem test_reset_rounds :
    onNext summary (issueFrom { fixture tq plq .idle with iface := ⟨.quad, .normal, .w32⟩ } 0x10 0 0 0 0) =
      some (0x102, 1, 6) := by decide

theorem test_write_enable :
    onNext summary (issueFrom (fixture tp pl .reset) 0x11 0 0 0 0) = some (0x152, 0, 0) ∧
      onNext summary (issueFrom (fixture tp pl .configured) 0x11 0 0 0 0) = some (0x302, 1, 2) := by decide

theorem test_poll_ready :
    onNext summary (issueFrom (fixture tp pl .memoryMapped) 0x12 0 0 0 0) = some (0x642, 0, 0) ∧
      onNext summary (issueFrom (fixture tp pl .reset) 0x12 50 0 0 0) = some (0x102, 1, 1) := by decide

/-- P5 step 6. -/
theorem test_configure_again :
    onNext (fun t => (summary t, t.dev.sr, t.dev.cr))
        (issueFrom { fixture tq plq .idle with iface := ⟨.quad, .normal, .w32⟩ } 0x13 0 0 0 0) =
      some ((0x9202, 1, 13), 0x40, 0xC0) := by decide

/-- P5 transaction 26: the erase record of 95 section 9. -/
theorem test_erase_sector_record :
    onNext (fun t => t.trace.getD 1 (.memRead 0 0))
        (exec (.eraseSector 0x01FFF000) { fixture tq plq .idle with iface := ⟨.quad, .normal, .w32⟩ }) =
      some (.bus (.sendCommand ⟨0x21, .l4, .normal, ⟨.l4, .w32⟩, .absent, 0x01FFF000, 0⟩)) := by decide

theorem test_erase_sector_capacity :
    onNext summary (issueFrom (fixture tp pl .idle) 0x14 0x10000 0 0 0) = some (0x332, 0, 0) ∧
      onNext summary (issueFrom (fixture tp { pl with enforceRange := false } .idle) 0x14 0x01010000 0 0 0) =
        some (0x302, 1, 4) := by decide

/-- A poll that is never answered (70 R254): `BUSY` stays 1 with `CHIPSTATE` `Erasing`, and `CMD` is ignored. -/
theorem test_erase_chip_waits :
    onNext (fun t => (statusWord t, onNext statusWord (step { t with moves := [.write 0 4 0x17] })))
        (issueFrom { fixture tp pl .idle with forced := [(3, .never)] } 0x15 0 0 0 0) =
      some (0x401, some 0x401) := by decide

theorem test_mmap_enable :
    onNext summary (issueFrom (fixture tp pl .memoryMapped) 0x16 0 0 0 0) = some (0x602, 1, 0) ∧
      onNext summary (issueFrom (fixture tp pl .configured) 0x16 0 0 0 0) = some (0x602, 1, 1) := by decide

theorem test_mmap_disable :
    onNext summary (issueFrom (fixture tp pl .memoryMapped) 0x17 0 0 0 0) = some (0x302, 1, 1) ∧
      onNext summary (issueFrom (fixture tp pl .configured) 0x17 0 0 0 0) = some (0x302, 1, 1) := by decide

/-! ### Witnesses: states and operands that meet the hypotheses of each statement together -/

/-- A state whose collaborator answers every transaction `Ok`. -/
def okState (c : ChipState) : State := { fixture tp pl c with collab := .okOracle }

theorem answersOk_of_okOracle (s : State) (hc : s.collab = .okOracle) (hf : s.forced = []) : AnswersOk s := by
  refine ⟨by simp [hc], fun n _ => ⟨[], ?_⟩⟩
  simp [oracleAnswer, forcedAnswer, hc, hf]

theorem okState_answers (c : ChipState) : AnswersOk (okState c) := answersOk_of_okOracle _ rfl rfl

theorem ramHolds_of_all (s : State) (base : Nat) (data : List Byte)
    (h : ∀ i < data.length, inWindow s (base + i) = false ∧ memByte s (base + i) = .ok (data.getD i 0)) :
    RamHolds s base data := by
  intro i b hb
  obtain ⟨hi, he⟩ := List.getElem?_eq_some_iff.mp hb
  exact ⟨(h i hi).1, by rw [(h i hi).2, List.getD_eq_getElem?_getD, hb, Option.getD_some]⟩

theorem coverReads_of_all (s : State) (start size : Nat) (m : Nat → Byte)
    (h : ∀ k < start % 4 + size + tailSkipOf start size,
      memByte s (start - start % 4 + k) = .ok (m (start - start % 4 + k))) : CoverReads s start size m := by
  intro a h1 h2
  obtain ⟨k, rfl⟩ := Nat.exists_eq_add_of_le h1
  exact h k (by omega)

/-- The host's next move, in a state of the fixture. -/
def withMove (m : HostMove) (s : State) : State := { s with moves := [m] }

theorem witness_WordsAreLittleEndian :
    memByte checksumRam 0x2000 = .ok 0x10 ∧ memByte checksumRam 0x2001 = .ok 0x11 ∧
      memByte checksumRam 0x2002 = .ok 0x12 ∧ memByte checksumRam 0x2003 = .ok 0x13 := by decide

theorem witness_HardwareResetMove :
    (withMove .hardwareReset { okState .erasing with busy := true }).moves = [.hardwareReset] := by decide

theorem witness_StepRunsDecodedCommand :
    (placeCommand ⟨0x14, 0x1000, 0, 0, 0⟩ (okState .idle)).moves = [.write 0x00 4 0x14] ∧
      (placeCommand ⟨0x14, 0x1000, 0, 0, 0⟩ (okState .idle)).busy = false ∧
      decode ⟨0x14, 0x1000, 0, 0, 0⟩ = .ok (.eraseSector 0x1000) := by decide

/-- The boundary values of the three ranges of illegal codes, in every resting state. -/
theorem witness_IllegalCommandRaised :
    ∀ v ∈ ([0x00, 0x100, 0x07, 0x0F, 0x18, 0xFF] : List Word),
      ∀ c ∈ [ChipState.uninitialized, .reset, .configured, .idle, .memoryMapped],
        (withMove (.write 0x00 4 v) (okState c)).moves = [.write 0x00 4 v] ∧
        (withMove (.write 0x00 4 v) (okState c)).busy = false ∧
        (v.toNat % 256 = 0 ∨ (0x07 ≤ v.toNat % 256 ∧ v.toNat % 256 ≤ 0x0F) ∨ 0x18 ≤ v.toNat % 256) :=
  fun v hv _ _ => ⟨rfl, rfl, by
    simp only [List.mem_cons, List.not_mem_nil, or_false] at hv
    rcases hv with rfl | rfl | rfl | rfl | rfl | rfl <;> decide⟩

theorem witness_BusyBlockIgnoresHost :
    ∃ s t : State, s.busy = true ∧ step s = .next t ∧ s.moves.head? ≠ some .hardwareReset ∧ s.moves ≠ [] :=
  ⟨withMove (.write 0x04 4 7) { okState .erasing with busy := true }, _, rfl, rfl, by decide, by decide⟩

/-- Every clause: a width that is not 4, an offset between and above the registers, each register, and the first and
last register that an idle block takes while the block is busy. -/
theorem witness_RegisterPortWrites :
    (withMove (.write 0x00 2 9) (okState .idle)).moves = [.write 0x00 2 9] ∧
      (2 ≠ 4 ∨ 0x00 ∉ [0x00, 0x04, 0x08, 0x0C, 0x10, 0x14, 0x18, 0x1C]) ∧
      0x02 ∉ [0x00, 0x04, 0x08, 0x0C, 0x10, 0x14, 0x18, 0x1C] ∧
      0x20 ∉ [0x00, 0x04, 0x08, 0x0C, 0x10, 0x14, 0x18, 0x1C] ∧
      (∀ off ∈ [0x04, 0x08, 0x0C, 0x10, 0x14, 0x18, 0x1C],
        (withMove (.write off 4 9) (okState .idle)).moves = [.write off 4 9] ∧
        (withMove (.write off 4 9) (okState .idle)).busy = false) ∧
      ∀ off ∈ [0x00, 0x10],
        (withMove (.write off 4 9) { okState .erasing with busy := true }).moves = [.write off 4 9] ∧
        (withMove (.write off 4 9) { okState .erasing with busy := true }).busy = true := by decide

/-- Each clause: the eight registers with `BUSY` both ways, a narrow read, offsets between and above the registers, and
`WAIT` with `DONE` both ways. -/
theorem witness_RegisterPortReads :
    ∀ off ∈ [0x00, 0x04, 0x08, 0x0C, 0x10, 0x14, 0x18, 0x1C], ∀ b ∈ [true, false],
      (withMove (.read off 4) { okState .idle with busy := b }).moves = [.read off 4] ∧
      (withMove (.read off 4) { okState .idle with busy := b }).busy = b ∧
      (withMove (.read 0x1C 2) (okState .idle)).moves = [.read 0x1C 2] ∧
      (withMove (.read 0x02 4) (okState .idle)).moves = [.read 0x02 4] ∧
      0x02 ∉ [0x00, 0x04, 0x08, 0x0C, 0x10, 0x14, 0x18, 0x1C] ∧
      0x20 ∉ [0x00, 0x04, 0x08, 0x0C, 0x10, 0x14, 0x18, 0x1C] ∧
      (withMove .waitDone { okState .idle with done := b }).moves = [.waitDone] ∧
      (withMove .waitDone { okState .idle with done := b }).done = b := by decide

/-- `WAIT` (30 R100): the host's read shows `STATUS`, and only `DONE` ends the move. -/
theorem test_wait :
    onNext (fun t => (t.hostData, t.moves.length)) (step (withMove .waitDone (okState .idle))) = some (0x300, 1) ∧
      onNext (fun t => (t.hostData, t.moves.length)) (step (withMove .waitDone { okState .idle with done := true })) =
        some (0x302, 0) := by decide

/-- RAM of one page, with the window elsewhere. -/
def smallRam : State := { okState .idle with platform := { pl with ramRegions := [⟨0x20000000, 0x1000⟩] } }

/-- A running `WRITE` of four bytes from the start of that page. -/
def busyWrite : State := { smallRam with busy := true, cmd := 2, arg1 := 4, arg2 := 0x20000000 }

/-- Each clause, at the edges of RAM, of the window and of the buffer. -/
theorem witness_StoredBytesAreRead :
    (∀ a, (withMove (.store a 7) smallRam).moves = [.store a 7]) ∧
    (inWindow smallRam 0x20000000 = false ∧ inRam smallRam 0x20000000 = true ∧ inBusyBuffer smallRam 0x20000000 = false) ∧
    (inWindow smallRam 0x20000FFF = false ∧ inRam smallRam 0x20000FFF = true ∧ inBusyBuffer smallRam 0x20000FFF = false) ∧
    (inWindow smallRam 0x90000000 = true ∧ inWindow smallRam 0x9000FFFF = true) ∧
    (inWindow smallRam 0x8FFFFFFF = false ∧ inRam smallRam 0x8FFFFFFF = false) ∧
    (inWindow smallRam 0x20001000 = false ∧ inRam smallRam 0x20001000 = false) ∧
    (inWindow busyWrite 0x20000003 = false ∧ inRam busyWrite 0x20000003 = true ∧ inBusyBuffer busyWrite 0x20000003 = true) ∧
    (inRam busyWrite 0x20000004 = true ∧ inBusyBuffer busyWrite 0x20000004 = false) := by
  refine ⟨fun a => rfl, ?_⟩
  decide

/-- RAM that the host has not stored to reads a free byte and stops nothing: a checksum whose aligned cover takes it in
(20 R53) ends with `return`. -/
theorem test_checksum_beside_unwritten_ram :
    onNext (fun t => (t.done, t.err, t.trace)) (exec (.checksum 0x20000001 2 5)
      { fixture tp pl .memoryMapped with ram := bytesFrom 0x20000001 [0x10, 0x11] }) =
        some (true, .noError, [.memRead 0x20000000 4]) := by decide

theorem witness_ProfilePortHasNoEffectUntilInit :
    (withMove (.driveProfile tq) (okState .idle)).moves = [.driveProfile tq] ∧ tq.legal = true ∧
      (withMove (.driveProfile blankProfile) (okState .idle)).moves = [.driveProfile blankProfile] ∧
      blankProfile.legal = false := by decide

/-- A state of a run in which the invariant holds and the next step is a whole command. -/
theorem witness_StepKeepsInvariant :
    ∃ s t : State, Inv s ∧ step s = .next t ∧ t.done = true ∧ t.err = .noError :=
  ⟨placeCommand ⟨0x14, 0x1000, 0, 0, 0⟩ (okState .idle), _,
    { resting := by decide
      noTransients := by decide
      profileLegal := by decide
      mirrorsMapped := by decide
      busyClear := by decide
      errorClears := by decide
      errorLosesDevice := by decide
      ramWf := by decide
      flashWf := by decide
      ramBounded := by decide
      ramBacked := by decide }, rfl, by decide, by decide⟩

/-- A command of each kind that the three frame statements speak of reaches a next state. -/
theorem witness_frames :
    (∃ t, exec (.eraseSector 0x1000) (okState .idle) = .next t) ∧ (∃ t, exec .init (okState .idle) = .next t) ∧
      (∃ t, exec (.checksum 0x2001 4 0) checksumRam = .next t) ∧
      (∃ t, exec (.verify 0x90000100 0x20000000 2 0 0) verifyState = .next t) :=
  ⟨⟨_, rfl⟩, ⟨_, rfl⟩, ⟨_, rfl⟩, ⟨_, rfl⟩⟩

theorem witness_NoTransactionWhenMapped :
    checksumRam.chipState = .memoryMapped ∧ verifyState.chipState = .memoryMapped ∧
      (okState .memoryMapped).chipState = .memoryMapped ∧
      (∃ t, exec (.checksum 0x2001 4 0) checksumRam = .next t) ∧
      (∃ t, exec (.verify 0x90000100 0x20000000 2 0 0) verifyState = .next t) ∧
      (∃ t, exec .mmapEnable (okState .memoryMapped) = .next t) :=
  ⟨rfl, rfl, rfl, ⟨_, rfl⟩, ⟨_, rfl⟩, ⟨_, rfl⟩⟩

theorem witness_NotInitializedRaised :
    (okState .uninitialized).chipState = .uninitialized ∧ Instr.reset ≠ .init ∧
      (okState .reset).chipState = .reset ∧ admittedInReset .writeEnable = false ∧
      ∃ t, exec .writeEnable (okState .reset) = .next t ∧ (okState .reset).err ≠ .notInitialized ∧
        t.err = .notInitialized := ⟨by decide, by decide, by decide, by decide, _, rfl, by decide, by decide⟩

theorem witness_ModeConflictRaised :
    (okState .memoryMapped).chipState = .memoryMapped ∧ conflictsWhenMapped .eraseChip = true ∧
      ∃ t, exec .eraseChip (okState .memoryMapped) = .next t ∧ (okState .memoryMapped).err ≠ .modeConflict ∧
        t.err = .modeConflict := ⟨by decide, by decide, _, rfl, by decide, by decide⟩

/-- The first operands outside each range of 60 R213 (the last ones inside it stand in the completion witnesses). -/
theorem witness_InvalidRangeRaised :
    admittedIn (.write 0x90000000 1 0xFFFFFFFF) .idle = true ∧
      operandsOutOfRange (okState .idle) (.write 0x90000000 2 0xFFFFFFFF) ∧
      operandsOutOfRange (okState .idle) (.write 0x9000FFFF 2 0x20000000) ∧
      operandsOutOfRange { okState .idle with profile := { tp with flashSizeBytes := 0x8000 } } (.sectorErase 0x8000 0) ∧
      operandsOutOfRange { okState .idle with profile := { tp with flashSizeBytes := 0x8000 } } (.sectorErase 0 0x8000) ∧
      operandsOutOfRange (okState .idle) (.eraseSector 0x10000) ∧
      operandsOutOfRange (okState .idle) (.checksum 0xFFFFFFFF 2 0) ∧
      operandsOutOfRange (okState .idle) (.verify 0 0 0x40000000 0 0) ∧
      operandsOutOfRange (okState .idle) (.verify 0 0 1 0 5) ∧
      operandsOutOfRange (okState .idle) (.verify 0xFFFFFFFD 0 1 0 0) ∧
      operandsOutOfRange (okState .idle) (.verify 0 0xFFFFFFFD 1 0 0) ∧
      operandsOutOfRange (okState .idle) (.verify 0xFFFFFFFC 0 1 1 0) ∧
      ∃ t, exec (.checksum 0xFFFFFFFF 2 0) (okState .idle) = .next t ∧ t.err = .invalidRange := by
  simp only [operandsOutOfRange]
  refine ⟨by decide, by decide, by decide, by decide, by decide, by decide, by decide, by decide, by decide, by decide,
    by decide, by decide, _, rfl, by decide⟩

theorem witness_PreciseAborts :
    ∃ t, (okState .idle).err = .noError ∧ (okState .idle).eraseRange = none ∧ (okState .idle).writeCursor = none ∧
      (okState .idle).checksumAcc = none ∧ exec (.checksum 0xFFFFFFFF 2 0) (okState .idle) = .next t ∧
      t.err ≠ .noError ∧ isBusKind t.err = false :=
  ⟨_, by decide, by decide, by decide, by decide, rfl, by decide, by decide⟩

/-- An accepted `ERASE_CHIP` whose poll (transaction 3) is answered as given. -/
def erasing (a : BusAnswer) : State := { okState .idle with busy := true, forced := [(3, a)] }

/-- Each clause: the last transaction fails in both ways, is never answered, and answers `Ok`. -/
theorem witness_FirstFailureEndsCommand :
    (∃ t, exec .eraseChip (erasing (.fail .timeout)) = .next t ∧ t.txCount = 4 ∧
      oracleAnswer (erasing (.fail .timeout)) (t.txCount - 1) = .fail .timeout) ∧
    (∃ t, exec .eraseChip (erasing (.fail .busError)) = .next t ∧ t.txCount = 4 ∧
      oracleAnswer (erasing (.fail .busError)) (t.txCount - 1) = .fail .busError) ∧
    (∃ t, exec .eraseChip (erasing .never) = .next t ∧ t.txCount = 4 ∧
      oracleAnswer (erasing .never) (t.txCount - 1) = .never) ∧
    (∃ t, exec .eraseChip (erasing (.ok [])) = .next t ∧ t.txCount = 4 ∧ t.done = true ∧ isBusKind t.err = false) ∧
    (∀ a, (erasing a).collab ≠ .reference ∧ (erasing a).busy = true ∧ (erasing a).done = false ∧
      (erasing a).err = .noError) :=
  ⟨⟨_, rfl, rfl, rfl⟩, ⟨_, rfl, rfl, rfl⟩, ⟨_, rfl, rfl, rfl⟩, ⟨_, rfl, rfl, rfl, rfl⟩, fun _ => ⟨by simp [erasing, okState], rfl, rfl, rfl⟩⟩

/-- Each clause: `return`, a bus kind and a precise kind. -/
theorem witness_TransitionsAtCommandEnd :
    (∃ t, exec .eraseChip (erasing (.ok [])) = .next t ∧ t.done = true ∧ t.err = .noError) ∧
    (∃ t, exec .eraseChip (erasing (.fail .timeout)) = .next t ∧ t.done = true ∧ t.err = .timeout) ∧
    (∃ t, exec .eraseChip (okState .reset) = .next t ∧ t.done = true ∧ t.err ≠ .noError ∧ isBusKind t.err = false) ∧
    (okState .reset).done = false :=
  ⟨⟨_, rfl, rfl, rfl⟩, ⟨_, rfl, rfl, rfl⟩, ⟨_, rfl, rfl, by decide, rfl⟩, rfl⟩

/-- An oracle that answers `Ok` but for transaction `k`, which it never answers. -/
def waiting (k : Nat) (s : State) : State := { s with forced := [(k, .never)], collab := .okOracle, txCount := 0 }

theorem waiting_neverAnswers (k : Nat) (s : State) : NeverAnswers (waiting k s) k := by
  refine ⟨by simp [waiting], fun j hj => ⟨[], ?_⟩, by simp [waiting, oracleAnswer, forcedAnswer]⟩
  have h : (j == k) = false := by simpa using Nat.ne_of_lt hj
  simp [waiting, oracleAnswer, forcedAnswer, List.lookup, h]

/-- Each clause: before and after the erase opcode, and in the second sector of a range. -/
theorem witness_EraseWaits :
    (∀ k s, NeverAnswers (waiting k s) k) ∧
    (∀ k, (waiting k (okState .idle)).chipState = .idle ∧
      ¬ operandsOutOfRange (waiting k (okState .idle)) (.eraseSector 0xFFFF)) ∧
    (∀ k, (waiting k (okState .memoryMapped)).chipState = .memoryMapped ∧
      0 < (waiting k (okState .memoryMapped)).profile.sectorSizeBytes ∧
      ¬ operandsOutOfRange (waiting k (okState .memoryMapped)) (.sectorErase 0x0FFF 0x1000) ∧
      (touchedSectors 0x1000 (toOffset (waiting k (okState .memoryMapped)) 0x0FFF)
        (toOffset (waiting k (okState .memoryMapped)) 0x1000))[1]? = some 0x1000) :=
  ⟨waiting_neverAnswers, fun k => ⟨rfl, by simp only [operandsOutOfRange]; exact of_decide_eq_false rfl⟩,
    fun _ => ⟨rfl, Nat.succ_pos _,
      (by simp only [operandsOutOfRange]; decide :
        ¬ operandsOutOfRange (okState .memoryMapped) (.sectorErase 0x0FFF 0x1000)),
      (by decide : (touchedSectors 0x1000 (toOffset (okState .memoryMapped) 0x0FFF)
        (toOffset (okState .memoryMapped) 0x1000))[1]? = some 0x1000)⟩⟩

/-- The first poll of the second sector: `Erasing`, and the `EraseRange` names that sector. -/
theorem test_sector_erase_waits :
    onNext (fun t => (statusWord t, t.eraseRange, t.txCount))
        (exec (.sectorErase 0x0FFF 0x1000) (waiting (1 + 4 * 1 + 3) { okState .memoryMapped with busy := true })) =
      some (0x401, some ⟨0x0FFF, 0x1000, 0x1000⟩, 9) := by decide

/-- The hypotheses of `ResetCompletes`, `PollReadyCompletes` and `ConfigureCompletes`. -/
theorem witness_recovery_completes :
    (okState .reset).chipState = .reset ∧ (okState .configured).chipState = .configured ∧
      (okState .idle).chipState = .idle ∧ AnswersOk (okState .reset) ∧ AnswersOk (okState .configured) ∧
      AnswersOk (okState .idle) :=
  ⟨rfl, rfl, rfl, okState_answers _, okState_answers _, okState_answers _⟩

/-- The hypotheses of `WriteEnableCompletes`, `EraseChipCompletes` and, at the last offset that the range admits,
`EraseSectorCompletes`. -/
theorem witness_command_mode_completes :
    (okState .configured).chipState = .configured ∧ (okState .idle).chipState = .idle ∧
      AnswersOk (okState .configured) ∧ AnswersOk (okState .idle) ∧
      ¬ operandsOutOfRange (okState .idle) (.eraseSector 0xFFFF) :=
  ⟨rfl, rfl, okState_answers _, okState_answers _, by simp only [operandsOutOfRange]; decide⟩

/-- The hypotheses of `MmapEnableCompletes`, `MmapDisableCompletes` and `MassEraseCompletes`. -/
theorem witness_map_completes :
    (okState .memoryMapped).chipState = .memoryMapped ∧ (okState .configured).chipState = .configured ∧
      AnswersOk (okState .memoryMapped) ∧ AnswersOk (okState .configured) :=
  ⟨rfl, rfl, okState_answers _, okState_answers _⟩

theorem witness_InitCompletes :
    isResting (okState .uninitialized).chipState = true ∧ (okState .uninitialized).profileIn.legal = true ∧
      AnswersOk (okState .uninitialized) := ⟨rfl, by decide, okState_answers _⟩

theorem witness_InitRefusesIllegalProfile :
    State.profileIn { okState .idle with profileIn := blankProfile } = blankProfile ∧
      blankProfile.legal = false := by decide

theorem witness_SectorEraseCompletes :
    (okState .memoryMapped).chipState = .memoryMapped ∧ AnswersOk (okState .memoryMapped) ∧
      0 < (okState .memoryMapped).profile.sectorSizeBytes ∧
      ¬ operandsOutOfRange (okState .memoryMapped) (.sectorErase 0x90000000 0x9000FFFF) :=
  ⟨rfl, okState_answers _, by decide, by simp only [operandsOutOfRange]; decide⟩

theorem witness_SectorSetOfRange : 0 < 0x1000 := by decide

/-- Ten bytes of RAM up to the top of the address space, and the collaborator that answers `Ok`. -/
def okWriteState : State :=
  { okState .memoryMapped with
    ram := bytesFrom 0xFFFFFFF6 [0xA0, 0xA1, 0xA2, 0xA3, 0xA4, 0xA5, 0xA6, 0xA7, 0xA8, 0xA9] }

/-- The ten bytes of `okWriteState` and of `writeState`. -/
def tenBytes : List Byte := [0xA0, 0xA1, 0xA2, 0xA3, 0xA4, 0xA5, 0xA6, 0xA7, 0xA8, 0xA9]

/-- The hypotheses of `WriteCompletes` and `WriteIsAPageSplit`, at the end of both ranges. -/
theorem witness_WriteCompletes :
    okWriteState.chipState = .memoryMapped ∧ AnswersOk okWriteState ∧ 0 < okWriteState.profile.pageSizeBytes ∧
      ¬ operandsOutOfRange okWriteState (.write 0x9000FFF6 10 0xFFFFFFF6) ∧ tenBytes.length = (10 : Word).toNat ∧
      RamHolds okWriteState (0xFFFFFFF6 : Word).toNat tenBytes :=
  ⟨rfl, answersOk_of_okOracle _ rfl rfl, by decide, by simp only [operandsOutOfRange]; decide, by decide,
    ramHolds_of_all _ _ _ (by decide)⟩

/-- The second chunk of a ten-byte write, at every one of its transactions. -/
theorem witness_WriteWaits :
    ∀ k, (waiting k okWriteState).chipState = .memoryMapped ∧ NeverAnswers (waiting k okWriteState) k ∧
      0 < (waiting k okWriteState).profile.pageSizeBytes ∧
      ¬ operandsOutOfRange (waiting k okWriteState) (.write 0x900000FA 10 0xFFFFFFF6) ∧
      tenBytes.length = (10 : Word).toNat ∧ RamHolds (waiting k okWriteState) (0xFFFFFFF6 : Word).toNat tenBytes ∧
      (pageChunks 256 (toOffset (waiting k okWriteState) 0x900000FA) 10)[1]? = some (0x100, 4) :=
  fun k => ⟨rfl, waiting_neverAnswers k _, Nat.succ_pos _,
    (by simp only [operandsOutOfRange]; decide : ¬ operandsOutOfRange okWriteState (.write 0x900000FA 10 0xFFFFFFF6)),
    rfl, ramHolds_of_all (waiting k okWriteState) _ _
      (show ∀ i < tenBytes.length, inWindow okWriteState ((0xFFFFFFF6 : Word).toNat + i) = false ∧
        memByte okWriteState ((0xFFFFFFF6 : Word).toNat + i) = .ok (tenBytes.getD i 0) by decide),
    (by decide : (pageChunks 256 (toOffset okWriteState 0x900000FA) 10)[1]? = some (0x100, 4))⟩

/-- The `Transmit` of the second chunk: `Programming`, and the `WriteCursor` stands on that chunk. -/
theorem test_write_waits :
    onNext (fun t => (statusWord t, t.writeCursor, t.txCount))
        (exec (.write 0x900000FA 10 0xFFFFFFF6) (waiting (1 + 5 * 1 + 3) { okWriteState with busy := true })) =
      some (0x501, some ⟨0x100, 4, 6⟩, 10) := by decide

theorem witness_EmptyWriteOnlyDisables :
    okWriteState.chipState = .memoryMapped ∧ AnswersOk okWriteState ∧
      ¬ operandsOutOfRange okWriteState (.write 0x9000FFFF 0 0xFFFFFFFF) :=
  ⟨rfl, answersOk_of_okOracle _ rfl rfl, by simp only [operandsOutOfRange]; decide⟩

/-- `checksumRam` with the collaborator that answers `Ok`. -/
def okReadState (c : ChipState) : State := { checksumRam with collab := .okOracle, chipState := c }

/-- The bytes of `okReadState`. -/
def readBytesOf (a : Nat) : Byte := BitVec.ofNat 8 (0x10 + (a - 0x2000))

/-- Both ways into the read, and an unaligned range. -/
theorem witness_ChecksumCompletes :
    (okReadState .memoryMapped).chipState = .memoryMapped ∧ (okReadState .configured).chipState = .configured ∧
      AnswersOk (okReadState .configured) ∧
      ¬ operandsOutOfRange (okReadState .configured) (.checksum 0x2001 14 0xFFFFFFF0) ∧
      CoverReads (mapEntered (okReadState .configured)) (0x2001 : Word).toNat (14 : Word).toNat readBytesOf ∧
      CoverReads (mapEntered (okReadState .memoryMapped)) (0x2001 : Word).toNat (14 : Word).toNat readBytesOf :=
  ⟨rfl, rfl, answersOk_of_okOracle _ rfl rfl, by simp only [operandsOutOfRange]; decide,
    coverReads_of_all _ _ _ _ (by decide), coverReads_of_all _ _ _ _ (by decide)⟩

theorem witness_ChecksumAdditive :
    (∃ s1, doChecksum 0x2001 4 7 checksumRam = .ok (0x51, s1)) ∧
      ∃ s2, doChecksum (0x2001 + 4) 3 0x51 checksumRam = .ok (0x93, s2) := ⟨⟨_, rfl⟩, ⟨_, rfl⟩⟩

/-- Each clause: a range of bytes, an empty range, and each command at its mapping transaction. -/
theorem witness_ChecksumAccumulatorHolds :
    (∃ t, doChecksum 0x2001 4 7 checksumRam = .ok (0x51, t)) ∧ (∃ t, doChecksum 0x2001 0 7 checksumRam = .ok (7, t)) ∧
      (waiting 0 checksumRam).txCount = 0 ∧ NeverAnswers (waiting 0 (okState .idle)) 0 ∧
      (waiting 0 (okState .idle)).chipState = .idle ∧
      ¬ operandsOutOfRange (waiting 0 (okState .idle)) (.checksum 0x2001 4 0) ∧
      ¬ operandsOutOfRange (waiting 0 (okState .idle)) (.verify 0x2000 0x2004 1 0 4) ∧
      ¬ operandsOutOfRange (waiting 0 (okState .idle)) .mmapEnable :=
  ⟨⟨_, rfl⟩, ⟨_, rfl⟩, rfl, waiting_neverAnswers _ _, rfl, by simp only [operandsOutOfRange]; decide,
    by simp only [operandsOutOfRange]; decide, id⟩

/-- A region compared with itself, both nibbles 0. -/
theorem witness_VerifyEqualCompletes :
    (okReadState .idle).chipState = .idle ∧ AnswersOk (okReadState .idle) ∧
      ¬ operandsOutOfRange (okReadState .idle) (.verify 0x2000 0x2000 3 1 2) ∧
      CoverReads (mapEntered (okReadState .idle)) ((0x2000 : Word).toNat + (1 : BitVec 4).toNat)
        (4 * (3 : Word).toNat - (2 : BitVec 4).toNat) readBytesOf ∧
      RangeReads (mapEntered (okReadState .idle)) (0x2000 : Word).toNat (4 * (3 : Word).toNat) readBytesOf :=
  ⟨rfl, answersOk_of_okOracle _ rfl rfl, by simp only [operandsOutOfRange]; decide,
    coverReads_of_all _ _ _ _ (by decide), by unfold RangeReads; decide⟩

/-- Two regions that differ at their first byte, and so at `k = 0`. -/
theorem witness_VerifyReportsFirstMismatch :
    (okReadState .memoryMapped).chipState = .memoryMapped ∧
      ¬ operandsOutOfRange (okReadState .memoryMapped) (.verify 0x2000 0x2004 2 0 0) ∧
      CoverReads (mapEntered (okReadState .memoryMapped)) ((0x2000 : Word).toNat + (0 : BitVec 4).toNat)
        (4 * (2 : Word).toNat - (0 : BitVec 4).toNat) readBytesOf ∧
      0 < 4 * (2 : Word).toNat ∧
      RangeReads (mapEntered (okReadState .memoryMapped)) (0x2000 : Word).toNat (0 + 1) readBytesOf ∧
      RangeReads (mapEntered (okReadState .memoryMapped)) (0x2004 : Word).toNat (0 + 1) readBytesOf ∧
      readBytesOf ((0x2000 : Word).toNat + 0) ≠ readBytesOf ((0x2004 : Word).toNat + 0) :=
  ⟨rfl, by simp only [operandsOutOfRange]; decide, coverReads_of_all _ _ _ _ (by decide), by decide,
    by unfold RangeReads; decide, by unfold RangeReads; decide, by decide⟩

/-- Each clause: the first and the last offset of the window, mapped and not; RAM stored to and not; both sides of a
region. -/
theorem witness_WindowReads :
    (∀ o ∈ [0, 0xFFFF], o < (fixture tp pl .memoryMapped).profile.flashSizeBytes ∧
      (fixture tp pl .memoryMapped).mapped = true ∧ (fixture tp pl .memoryMapped).collab = .reference ∧
      (fixture tp pl .idle).mapped = false) ∧
    memFind (bytesFrom 0x20000000 [7]) 0x20000000 = some 7 ∧
    (∀ r ∈ smallRam.platform.ramRegions, ∀ a ∈ [0x20000000, 0x20000FFF], r.base ≤ a ∧ a < r.base + r.size ∧
      a < smallRam.platform.mmapBase.toNat) ∧
    (∀ r ∈ smallRam.platform.ramRegions, ∀ a ∈ [0x1FFFFFFF, 0x20001000], (a < r.base ∨ r.base + r.size ≤ a) ∧
      a < smallRam.platform.mmapBase.toNat) ∧
    smallRam.platform.mmapBase.toNat + smallRam.profile.flashSizeBytes ≤ 0x90010000 := by decide

theorem witness_InjectedFailureSkipsDevice :
    State.collab { fixture tp pl .idle with forced := [(0, .fail .timeout)] } = .reference ∧
      List.lookup 0 (State.forced { fixture tp pl .idle with forced := [(0, .fail .timeout)] }) =
        some (.fail .timeout) := by decide

theorem tp_opcodesApart : opcodesApart tp := by
  refine ⟨by decide, by decide, by decide, by decide, by decide, ?_⟩
  rintro op (rfl | rfl) <;> decide

/-- The hypotheses of `ReferenceSectorErase`, at the last byte of the flash. -/
theorem witness_ReferenceSectorErase :
    ReferenceReady (writeState .idle) ∧ (writeState .idle).profile.legal = true ∧
      (writeState .idle).chipState = .idle ∧
      toOffset (writeState .idle) 0x90000FFF < (writeState .idle).profile.flashSizeBytes ∧
      toOffset (writeState .idle) 0x9000FFFF < (writeState .idle).profile.flashSizeBytes ∧
      toOffset (writeState .idle) 0x9000FFFF < 2 ^ widthBits (writeState .idle).iface.addrw :=
  ⟨⟨rfl, rfl, by decide, tp_opcodesApart⟩, by decide, rfl, by decide, by decide, by decide⟩

/-- The hypotheses of `ReferenceWriteAnds` and `ReferenceRoundTrip`, up to the last byte of the flash. -/
theorem witness_ReferenceWrites :
    ReferenceReady (writeState .idle) ∧ (writeState .idle).profile.legal = true ∧
      (writeState .idle).chipState = .idle ∧ tenBytes.length = (10 : Word).toNat ∧
      RamHolds (writeState .idle) (0x20000000 : Word).toNat tenBytes ∧
      (0x20000000 : Word).toNat + (10 : Word).toNat ≤ 2 ^ 32 ∧
      toOffset (writeState .idle) 0x9000FFF6 + (10 : Word).toNat ≤ (writeState .idle).profile.flashSizeBytes ∧
      (writeState .idle).profile.flashSizeBytes ≤ 2 ^ widthBits (writeState .idle).iface.addrw ∧
      toOffset (writeState .idle) 0x9000FFF6 + (10 : Word).toNat ≤ 2 ^ widthBits (writeState .idle).iface.addrw ∧
      toOffset (writeState .idle) 0x9000F000 < (writeState .idle).profile.flashSizeBytes ∧
      toOffset (writeState .idle) 0x9000F000 ≤ toOffset (writeState .idle) 0x9000FFF6 ∧
      toOffset (writeState .idle) 0x9000FFF6 + (10 : Word).toNat ≤ toOffset (writeState .idle) 0x9000FFFF + 1 :=
  ⟨⟨rfl, rfl, by decide, tp_opcodesApart⟩, by decide, rfl, by decide, ramHolds_of_all _ _ _ (by decide), by decide,
    by decide, by decide, by decide, by decide, by decide, by decide⟩

/-- Each clause: `CONFIGURE`, `RESET` and `INIT` reach a next state with an `Ok` oracle. -/
theorem witness_TransactionCounts :
    AnswersOk (okState .idle) ∧ (okState .idle).chipState = .idle ∧ isResting (okState .idle).chipState = true ∧
      (∃ t, exec .configure (okState .idle) = .next t) ∧ (∃ t, exec .reset (okState .idle) = .next t) ∧
      (∃ t, exec .init (okState .idle) = .next t) :=
  ⟨okState_answers _, rfl, rfl, ⟨_, rfl⟩, ⟨_, rfl⟩, ⟨_, rfl⟩⟩

end Sys2Proof.Tests
end

/-! PROOF. The two ends of a command: what `return v` and `raise k` write (00 R9, 60 R218). -/

namespace Sys2Proof.Machine

/-! ### A doubleword and its two halves -/

/-- The low register takes the value modulo `2 ^ 32`. -/
theorem lowWord_eq_mod (v : DWord) : v.setWidth 32 = BitVec.ofNat 32 (v.toNat % 2 ^ 32) := by
  apply BitVec.eq_of_toNat_eq
  simp

/-- The high register takes the quotient by `2 ^ 32`. -/
theorem highWord_eq_div (v : DWord) : v.extractLsb' 32 32 = BitVec.ofNat 32 (v.toNat / 2 ^ 32) := by
  apply BitVec.eq_of_toNat_eq
  simp [Nat.shiftRight_eq_div_pow]

/-- Nothing of a doubleword is lost between the two result registers. -/
theorem highWord_append_lowWord (v : DWord) : v.extractLsb' 32 32 ++ v.setWidth 32 = v := by
  rw [BitVec.setWidth_eq_extractLsb' (by decide)]
  exact BitVec.extractLsb'_append_extractLsb' (w := 32) (len := 32)

/-! ### `RES` at the two ends -/

/-- `RES_HI || RES_LO` reads the value a command returns (10 R22). -/
@[simp] theorem resultWord_complete (v : DWord) (s : State) : resultWord (complete v s) = v := by
  simp only [resultWord, complete_resHi, complete_resLo, highWord_append_lowWord]

/-- An exception leaves no result (60 R218). -/
@[simp] theorem resultWord_raise (k : ErrKind) (s : State) : resultWord (raise k s) = 0 :=
  BitVec.zero_append_zero

/-! ### The kinds that lose the device -/

theorem isBusKind_iff (k : ErrKind) : isBusKind k = true ↔ k = .busError ∨ k = .timeout := by
  cases k <;> simp [isBusKind]

/-! ### The statement -/

/-- Settles O11: the halves of `v` are its remainder and quotient, and `isBusKind` names `BusError` and `Timeout`. -/
theorem returnAndRaise : Obligations.ReturnAndRaise := by
  unfold Obligations.ReturnAndRaise
  intro s v k
  refine ⟨⟨resultWord_complete v s, ?_⟩, resultWord_raise k s, ?_⟩
  · rw [← lowWord_eq_mod, ← highWord_eq_div]
    rfl
  · simp only [← isBusKind_iff]
    rfl

end Sys2Proof.Machine

/-! PROOF. What a command does to the state, as a chain of single actions, and how it can end. Every statement about
what commands keep is an induction over that chain. -/

namespace Sys2Proof.Machine

/-! ### The actions of a command -/

/-- How much of the state a piece of pseudocode may write: reading commands past their mapping transaction write only
the `ChecksumAccumulator`, the others also the bus and `chipState`, and the three commands of 10 R26 `InterfaceState`. -/
inductive Access where
  | read | command | configure

/-- One write of a command, as the operations of Ops.lean make it. -/
inductive Action (l : Access) : State → State → Prop
  | memRead (s : State) (a n : Nat) : Action l s (logRead a n s)
  | accumulator (s : State) (c : ChecksumAccumulator) : Action l s (setChecksumAcc c s)
  | transaction {s : State} {t : Txn} {x : BusAnswer} {m : Bool} {d : RefDevice} (hl : l ≠ .read)
      (h : answerTxn t s = (x, m, d)) : Action l s (setBus m d (logTxn t s))
  | chip (hl : l ≠ .read) (s : State) (c : ChipState) : Action l s (setChip c s)
  | range (hl : l ≠ .read) (s : State) (e : EraseRange) : Action l s (setEraseRange e s)
  | cursor (hl : l ≠ .read) (s : State) (w : WriteCursor) : Action l s (setWriteCursor w s)
  | interface (hl : l = .configure) (s : State) (f : InterfaceState) : Action l s (setIface f s)

/-- A chain of actions. -/
abbrev Acts (l : Access) : State → State → Prop := Relation.ReflTransGen (Action l)

/-- A reading action is an action of every command. -/
theorem action_of_read {l : Access} {s t : State} (h : Action .read s t) : Action l s t := by
  cases h with
  | memRead s a n => exact .memRead s a n
  | accumulator s c => exact .accumulator s c
  | transaction hl => exact absurd rfl hl
  | chip hl => exact absurd rfl hl
  | range hl => exact absurd rfl hl
  | cursor hl => exact absurd rfl hl
  | interface hl => cases hl

theorem acts_of_read {l : Access} {s t : State} (h : Acts .read s t) : Acts l s t :=
  Relation.ReflTransGen.mono (fun _ _ => action_of_read) _ _ h

/-- What every action keeps, a chain of them keeps. -/
theorem acts_keep {l : Access} {β : Type} (f : State → β) (hf : ∀ s t, Action l s t → f t = f s) {s t : State}
    (h : Acts l s t) : f t = f s := by
  induction h with
  | refl => rfl
  | tail _ ha ih => exact (hf _ _ ha).trans ih

/-! ### What a chain of actions keeps -/

/-- The parts of the state that no command writes: the code and the argument registers, the platform record, the port,
RAM, the collaborator's choice and what the host does. -/
def hostParts (s : State) :
    Byte × Word × Word × Word × Word × Platform × DeviceProfile × Collaborator × List (Nat × BusAnswer) ×
      List HostMove × Word × Memory :=
  (s.cmd, s.arg0, s.arg1, s.arg2, s.arg3, s.platform, s.profileIn, s.collab, s.forced, s.moves, s.hostData, s.ram)

theorem acts_hostParts {l : Access} {s t : State} (h : Acts l s t) : hostParts t = hostParts s :=
  acts_keep hostParts (fun _ _ ha => by cases ha <;> rfl) h

/-- A command that has latched its profile keeps it (10 R27). -/
theorem acts_profile {l : Access} {s t : State} (h : Acts l s t) : t.profile = s.profile :=
  acts_keep (·.profile) (fun _ _ ha => by cases ha <;> rfl) h

/-- Only the three commands of 10 R26 write `InterfaceState`. -/
theorem acts_iface {l : Access} (hl : l ≠ .configure) {s t : State} (h : Acts l s t) : t.iface = s.iface :=
  acts_keep (·.iface) (fun _ _ ha => by
    cases ha with
    | interface hc => exact absurd hc hl
    | _ => rfl) h

/-- Reads change the trace and the `ChecksumAccumulator` alone. -/
theorem acts_read {s t : State} (h : Acts .read s t) :
    t = { s with trace := t.trace, checksumAcc := t.checksumAcc } := by
  induction h with
  | refl => rfl
  | tail _ ha ih =>
    cases ha with
    | memRead => exact congrArg (logRead _ _) ih
    | accumulator => exact congrArg (setChecksumAcc _) ih
    | transaction hl => exact absurd rfl hl
    | chip hl => exact absurd rfl hl
    | range hl => exact absurd rfl hl
    | cursor hl => exact absurd rfl hl
    | interface hl => cases hl

/-- The trace of `t` is that of `s` with outputs in front, and their transactions are counted. -/
def TraceGrows (s t : State) : Prop :=
  ∃ es : List Event, t.trace = es ++ s.trace ∧ t.txCount = s.txCount + (es.filter isBusEvent).length

theorem traceGrows_of_same {s t : State} (h : t.trace = s.trace) (hn : t.txCount = s.txCount) : TraceGrows s t :=
  ⟨[], h, hn⟩

theorem traceGrows_trans {s t u : State} (h : TraceGrows s t) (h' : TraceGrows t u) : TraceGrows s u := by
  obtain ⟨es, htrace, hcount⟩ := h
  obtain ⟨fs, htrace', hcount'⟩ := h'
  exact ⟨fs ++ es, by rw [htrace', htrace, List.append_assoc],
    by rw [hcount', hcount, List.filter_append, List.length_append]; omega⟩

theorem action_traceGrows {l : Access} {s t : State} (h : Action l s t) : TraceGrows s t := by
  cases h with
  | memRead a n => exact ⟨[.memRead _ _], rfl, rfl⟩
  | transaction hl ht => exact ⟨[.bus _], rfl, rfl⟩
  | accumulator | chip | range | cursor | interface => exact traceGrows_of_same rfl rfl

theorem acts_traceGrows {l : Access} {s t : State} (h : Acts l s t) : TraceGrows s t := by
  induction h with
  | refl => exact traceGrows_of_same rfl rfl
  | tail _ ha ih => exact traceGrows_trans ih (action_traceGrows ha)

/-! ### The operations as chains of actions -/

/-- A failed transaction, after the actions so far. -/
def Fails (l : Access) (s : State) (k : ErrKind) (u : State) : Prop := isBusKind k = true ∧ Acts l s u

/-- The pseudocode `m` of a command that began in `s` ends in actions of access `l`: it goes on with `P`, and stops only
for a transaction that failed or was never answered. -/
def Runs {α : Type} (l : Access) (s : State) (P : α → Prop) (m : Except Stop α) : Prop :=
  Ends P (Fails l s) (Acts l s) m

theorem runs_bind {α β : Type} {l : Access} {s : State} {M : α → Prop} {P : β → Prop} {m : Except Stop α}
    {f : α → Except Stop β} (hm : Runs l s M m) (hf : ∀ a, M a → Runs l s P (f a)) : Runs l s P (m >>= f) :=
  ends_bind hm hf

/-- It goes on in `chipState` `c`. -/
def ActsTo (l : Access) (s : State) (c : ChipState) (u : State) : Prop := Acts l s u ∧ u.chipState = c

theorem errOfFail_isBusKind (k : FailKind) : isBusKind (errOfFail k) = true := by
  cases k <;> rfl

/-! #### Reads -/

section
variable {Q : ErrKind → State → Prop} {R : State → Prop} {s u : State}

theorem readByte_reads (a : Nat) (h : Acts .read s u) : Ends (fun r => Acts .read s r.2) Q R (readByte a u) :=
  readByte_ends fun _ _ => h.tail (.memRead _ _ _)

theorem readWord_reads (a : Nat) (h : Acts .read s u) : Ends (fun r => Acts .read s r.2) Q R (readWord a u) :=
  readWord_ends fun _ _ => h.tail (.memRead _ _ _)

theorem readBytes_reads (n src : Nat) (h : Acts .read s u) :
    Ends (fun r => Acts .read s r.2) Q R (readBytes src n u) := by
  induction n generalizing src u with
  | zero => exact h
  | succ n ih => exact ends_bind (readByte_reads src h) fun r hr => ends_bind (ih _ hr) fun _ hr' => hr'

theorem compareLoop_reads (n flash ram : Nat) (h : Acts .read s u) :
    Ends (fun r => Acts .read s r.2) Q R (compareLoop n flash ram u) := by
  induction n generalizing flash ram u with
  | zero => exact h
  | succ n ih =>
    refine ends_bind (readByte_reads flash h) fun f hf => ends_bind (readByte_reads ram hf) fun r hr => ?_
    dsimp only
    split
    · exact ih _ _ hr
    · exact hr

/-- The word loop reads, and carries the two skips along unchanged (42 R170). -/
theorem checksumLoop_reads (start stop n w : Nat) (acc : ChecksumAccumulator) (h : Acts .read s u) :
    Ends (fun r => Acts .read s r.2 ∧ r.1.headSkip = acc.headSkip ∧ r.1.tailSkip = acc.tailSkip) Q R
      (checksumLoop start stop n w acc u) := by
  induction n generalizing w acc u with
  | zero => exact ⟨h, rfl, rfl⟩
  | succ n ih => exact ends_bind (readWord_reads w (h.tail (.accumulator _ _))) fun r hr => ih _ _ hr

/-- `Checksum` reads; for a size that is not 0 it leaves the sum that it answers and the two skips in the accumulator
(10 R30, 42 R170). -/
theorem doChecksum_reads (start size : Nat) (seed : Word) (h : Acts .read s u) :
    Ends (fun r => Acts .read s r.2 ∧ r.2.checksumAcc =
        if size = 0 then u.checksumAcc else some ⟨r.1, headSkipOf start, tailSkipOf start size⟩) Q R
      (doChecksum start size seed u) := by
  unfold doChecksum
  split
  · exact ⟨h, rfl⟩
  · refine ends_bind (checksumLoop_reads _ _ _ _ _ h) fun ⟨⟨sum, head, tail⟩, v⟩ hr => ?_
    obtain ⟨hacts, rfl, rfl⟩ := hr
    exact ⟨hacts.tail (.accumulator _ _), rfl⟩

end

/-! #### Transactions -/

section
variable {l : Access} {s u : State}

theorem bus_runs (hl : l ≠ .read) (t : Txn) (h : Acts l s u) : Runs l s (Acts l s) (bus t u) :=
  bus_ends (fun _ _ _ e => h.tail (.transaction hl e))
    (fun k _ _ e => ⟨errOfFail_isBusKind k, h.tail (.transaction hl e)⟩) (fun _ _ e => h.tail (.transaction hl e))

theorem busReceiveByte_runs (hl : l ≠ .read) (h : Acts l s u) :
    Runs l s (fun r => Acts l s r.2) (busReceiveByte u) :=
  busReceiveByte_ends (fun _ _ _ _ e => h.tail (.transaction hl e))
    (fun k _ _ e => ⟨errOfFail_isBusKind k, h.tail (.transaction hl e)⟩) (fun _ _ e => h.tail (.transaction hl e))

theorem doWriteEnable_runs (hl : l ≠ .read) (h : Acts l s u) : Runs l s (Acts l s) (doWriteEnable u) :=
  runs_bind (bus_runs hl _ h) fun _ hv => bus_runs hl _ hv

theorem doPollReady_runs (hl : l ≠ .read) (t : Word) (h : Acts l s u) : Runs l s (Acts l s) (doPollReady t u) :=
  bus_runs hl _ h

theorem readRegister_runs (hl : l ≠ .read) (op : Byte) (h : Acts l s u) :
    Runs l s (fun r => Acts l s r.2) (readRegister op u) :=
  runs_bind (bus_runs hl _ h) fun _ hv => busReceiveByte_runs hl hv

theorem writeRegister_runs (hl : l ≠ .read) (op : Byte) (bytes : List Byte) (h : Acts l s u) :
    Runs l s (Acts l s) (writeRegister op bytes u) :=
  runs_bind (bus_runs hl _ h) fun _ hv => bus_runs hl _ hv

theorem doEraseSector_runs (hl : l ≠ .read) (addr : Nat) (h : Acts l s u) :
    Runs l s (ActsTo l s .idle) (doEraseSector addr u) :=
  runs_bind (doWriteEnable_runs hl h) fun _ h1 => runs_bind (bus_runs hl _ (h1.tail (.chip hl _ _))) fun _ h2 =>
    runs_bind (doPollReady_runs hl _ h2) fun _ h3 => ⟨h3.tail (.chip hl _ _), rfl⟩

theorem doEraseChip_runs (hl : l ≠ .read) (h : Acts l s u) : Runs l s (ActsTo l s .idle) (doEraseChip u) :=
  runs_bind (doWriteEnable_runs hl h) fun _ h1 => runs_bind (bus_runs hl _ (h1.tail (.chip hl _ _))) fun _ h2 =>
    runs_bind (doPollReady_runs hl _ h2) fun _ h3 => ⟨h3.tail (.chip hl _ _), rfl⟩

theorem doProgramChunk_runs (hl : l ≠ .read) (off n src : Nat) (h : Acts l s u) :
    Runs l s (ActsTo l s .idle) (doProgramChunk off n src u) :=
  runs_bind (readBytes_reads n src .refl) fun _ hr =>
    runs_bind (doWriteEnable_runs hl (h.trans (acts_of_read hr))) fun _ h1 =>
      runs_bind (bus_runs hl _ (h1.tail (.chip hl _ _))) fun _ h2 => runs_bind (bus_runs hl _ h2) fun _ h3 =>
        runs_bind (doPollReady_runs hl _ h3) fun _ h4 => ⟨h4.tail (.chip hl _ _), rfl⟩

theorem doMapDisable_runs (hl : l ≠ .read) (h : Acts l s u) : Runs l s (ActsTo l s .idle) (doMapDisable u) :=
  runs_bind (bus_runs hl _ h) fun _ hv => ⟨hv.tail (.chip hl _ _), rfl⟩

theorem eraseLoop_runs (hl : l ≠ .read) (start stop fuel a : Nat) (h : ActsTo l s .idle u) :
    Runs l s (ActsTo l s .idle) (eraseLoop start stop fuel a u) := by
  induction fuel generalizing a u with
  | zero =>
    unfold eraseLoop
    split
    · exact h.1
    · exact h
  | succ fuel ih =>
    unfold eraseLoop
    split
    · exact runs_bind (doEraseSector_runs hl a (h.1.tail (.range hl _ _))) fun _ hv => ih _ hv
    · exact h

theorem writeLoop_runs (hl : l ≠ .read) (buffer fuel cur rem bo n : Nat) (h : ActsTo l s .idle u) :
    Runs l s (ActsTo l s .idle) (writeLoop buffer fuel cur rem bo n u) := by
  induction fuel generalizing cur rem bo n u with
  | zero =>
    unfold writeLoop
    split
    · exact h
    · exact h.1
  | succ fuel ih =>
    unfold writeLoop
    split
    · exact h
    · exact runs_bind (doProgramChunk_runs hl _ _ _ (h.1.tail (.cursor hl _ _))) fun _ hv => ih _ _ _ _ hv

/-- An `EnableMemoryMap` that is answered `Ok` leaves the bus mapped, whoever answers (20 R62, R66, R73). -/
theorem answerTxn_mapCommand {v : State} {rx : List Byte} {m : Bool} {d : RefDevice}
    (h : answerTxn (mapCommand v) u = (.ok rx, m, d)) : m = true := by
  by_cases hc : u.collab = .reference
  · simp only [answerTxn, hc] at h
    split at h <;> simp_all [mapCommand, deviceStep]
  · rw [answerTxn_oracle hc, Prod.mk.injEq, Prod.mk.injEq] at h
    obtain ⟨ha, hm, -⟩ := h
    rw [ha] at hm
    exact hm.symm

/-- After `EnableMemoryMappedMode()` the bus is mapped, unless nothing was done because `MemoryMapped` was on already
(40 R127). -/
theorem doMapEnable_runs (hl : l ≠ .read) (h : Acts l s u) :
    Runs l s (fun v => ActsTo l s .memoryMapped v ∧ (v.mapped = true ∨ v = u)) (doMapEnable u) := by
  unfold doMapEnable
  split
  · exact ⟨⟨h, ‹_›⟩, .inr rfl⟩
  · have hbus : Runs l s (fun v => Acts l s v ∧ v.mapped = true) (bus (mapCommand u) u) :=
      bus_ends (fun _ _ _ e => ⟨h.tail (.transaction hl e), answerTxn_mapCommand e⟩)
        (fun k _ _ e => ⟨errOfFail_isBusKind k, h.tail (.transaction hl e)⟩)
        (fun _ _ e => h.tail (.transaction hl e))
    exact runs_bind hbus fun v hv => ⟨⟨hv.1.tail (.chip hl _ _), rfl⟩, .inl hv.2⟩

end

/-! #### The operations that write `InterfaceState` -/

section
variable {s u : State}

theorem sendResetRounds_runs (rs : List Lines) (h : Acts .configure s u) :
    Runs .configure s (Acts .configure s) (sendResetRounds rs u) := by
  induction rs generalizing u with
  | nil => exact h
  | cons r rs ih =>
    exact runs_bind (bus_runs (by simp) _ h) fun _ h1 => runs_bind (bus_runs (by simp) _ h1) fun _ h2 => ih h2

theorem doReset_runs (h : Acts .configure s u) : Runs .configure s (ActsTo .configure s .reset) (doReset u) :=
  runs_bind (sendResetRounds_runs _ h) fun _ hv => ⟨(hv.tail (.interface rfl _ _)).tail (.chip (by simp) _ _), rfl⟩

theorem enterFourByte_runs (h : Acts .configure s u) : Runs .configure s (Acts .configure s) (enterFourByte u) := by
  unfold enterFourByte
  split
  · exact runs_bind (bus_runs (by simp) _ h) fun v hv => hv.tail (.interface rfl v { v.iface with addrw := .w32 })
  · exact h

theorem enterMultiLine_runs (h : Acts .configure s u) : Runs .configure s (Acts .configure s) (enterMultiLine u) := by
  unfold enterMultiLine
  split
  · exact runs_bind (enterFourByte_runs h) fun _ h1 => runs_bind (bus_runs (by simp) _ h1) fun v h2 =>
      h2.tail (.interface rfl v
        { v.iface with mode := v.profile.configuredMode, rate := v.profile.configuredRate })
  · exact h

theorem disableWrap_runs (h : Acts .configure s u) : Runs .configure s (Acts .configure s) (disableWrap u) := by
  unfold disableWrap
  split
  · exact writeRegister_runs (by simp) _ _ h
  · exact h

theorem doConfigure_runs (h : Acts .configure s u) :
    Runs .configure s (ActsTo .configure s .configured) (doConfigure u) :=
  runs_bind (readRegister_runs (by simp) _ h) fun _ h1 =>
    runs_bind (readRegister_runs (by simp) _ h1) fun _ h2 =>
      runs_bind (doWriteEnable_runs (by simp) h2) fun _ h3 =>
        runs_bind (writeRegister_runs (by simp) _ _ h3) fun _ h4 =>
          runs_bind (doPollReady_runs (by simp) _ h4) fun _ h5 =>
            runs_bind (enterMultiLine_runs h5) fun _ h6 =>
              runs_bind (disableWrap_runs h6) fun _ h7 => ⟨h7.tail (.chip (by simp) _ _), rfl⟩

end

/-! ### How a command can end -/

/-- The command rests: in one of the five states of 10 R25, and in `MemoryMapped` with the bus mapped, or with the
mapped flag that it found (10 R33 (b)). -/
def Rests (s u : State) : Prop :=
  isResting u.chipState = true ∧
    (u.chipState = .memoryMapped → u.mapped = true ∨ (s.chipState = .memoryMapped ∧ u.mapped = s.mapped))

/-- Everything a command that began in `s` can end in: it waits for an answer that never comes, a transaction failed,
it was rejected before it did anything, or it returned, `VERIFY` with `MISMATCH` set. -/
inductive Ended (l : Access) (s : State) : State → Prop
  | waits {u : State} (h : Acts l s u) : Ended l s u
  | fails {k : ErrKind} {u : State} (hk : isBusKind k = true) (h : Acts l s u) : Ended l s (raise k u)
  | rejected {k : ErrKind} (hk : isBusKind k = false) : Ended l s (raise k s)
  | returns {u : State} (v : DWord) (h : Acts l s u) (hr : Rests s u) : Ended l s (complete v u)
  | differs {u : State} (v : DWord) (h : Acts l s u) (hr : Rests s u) : Ended l s (complete v (setMismatch u))

/-- The pseudocode `m` of a whole command. -/
def Concludes (l : Access) (s : State) (m : Except Stop State) : Prop :=
  Ends (Ended l s) (fun k u => Ended l s (raise k u)) (Ended l s) m

section
variable {l : Access} {s u : State}

theorem rests_of_ne_memoryMapped (hr : isResting u.chipState = true) (hm : u.chipState ≠ .memoryMapped) : Rests s u :=
  ⟨hr, fun h => absurd h hm⟩

theorem concludes_bind {α : Type} {M : α → Prop} {m : Except Stop α} {f : α → Except Stop State}
    (hm : Runs l s M m) (hf : ∀ a, M a → Concludes l s (f a)) : Concludes l s (m >>= f) :=
  ends_bind (ends_mono hm (fun _ h => h) (fun _ _ h => .fails h.1 h.2) fun _ h => .waits h) hf

/-- An operand check comes before every action (60 R217). -/
theorem concludes_requireRange {b : Bool} {f : State → Except Stop State} (hf : Concludes l s (f s)) :
    Concludes l s (requireRange b s >>= f) :=
  ends_bind (M := (· = s)) (requireRange_ends (fun _ => rfl) fun _ => .rejected rfl) fun _ h => h ▸ hf

/-- Pseudocode that ends in command mode, and then returns 1. -/
theorem concludes_returns_one {m : Except Stop State} {c : ChipState} (hr : isResting c = true)
    (hc : c ≠ .memoryMapped) (hm : Runs l s (ActsTo l s c) m) : Concludes l s (m >>= fun v => .ok (complete 1 v)) :=
  concludes_bind hm fun _ ⟨h, hv⟩ => .returns 1 h (rests_of_ne_memoryMapped (hv ▸ hr) (hv ▸ hc))

theorem admission_rejects_precisely {row : AdmissionRow} {c : ChipState} {k : ErrKind}
    (h : admission row c = .rejected k) : isBusKind k = false := by
  cases row <;> cases c <;> cases h <;> rfl

/-- A host command of any row: rejected in the state it was accepted in, or run. -/
theorem runCommand_ended {row : AdmissionRow} {body : State → Except Stop State} {t : State}
    (h : runCommand row body s = .next t) (hb : Concludes l s (body s)) : Ended l s t :=
  runCommand_ends h (fun _ hk => .rejected (admission_rejects_precisely hk)) fun _ => hb

end

/-- What a command may write. -/
def accessOf : Instr → Access
  | .init | .reset | .configure => .configure
  | .write _ _ _ | .sectorErase _ _ | .massErase _ | .checksum _ _ _ | .verify _ _ _ _ _ | .writeEnable | .pollReady _
  | .eraseSector _ | .eraseChip | .mmapEnable | .mmapDisable => .command

/-- The state in which a command begins to act: `INIT` has latched the profile (43 R190). -/
def started : Instr → State → State
  | .init, s => latchProfile s
  | .write _ _ _, s | .sectorErase _ _, s | .massErase _, s | .checksum _ _ _, s | .verify _ _ _ _ _, s | .reset, s
  | .writeEnable, s | .pollReady _, s | .configure, s | .eraseSector _, s | .eraseChip, s | .mmapEnable, s
  | .mmapDisable, s => s

theorem started_of_ne_init {i : Instr} (h : i ≠ .init) (s : State) : started i s = s := by
  cases i with
  | init => exact absurd rfl h
  | _ => rfl

/-! ### Every command -/

section
variable {s t : State}

/-- The part that `CHECKSUM` and `VERIFY` share: once the flash is mapped, the rest reads. -/
theorem rests_of_mapEntered {l : Access} {u v : State} (hu : ActsTo l s .memoryMapped u)
    (hm : u.mapped = true ∨ u = s) (h : Acts .read u v) : Acts l s v ∧ Rests s v := by
  obtain ⟨hacts, hchip⟩ := hu
  have hv := acts_read h
  refine ⟨hacts.trans (acts_of_read h), by rw [hv, hchip]; rfl, fun _ => ?_⟩
  rw [hv]
  rcases hm with hm | rfl
  · exact .inl hm
  · exact .inr ⟨hchip, rfl⟩

theorem execChecksum_ended {start size seed : Word} (h : execChecksum start size seed s = .next t) :
    Ended .command s t :=
  runCommand_ended h <| concludes_requireRange <| concludes_bind (doMapEnable_runs (by simp) .refl) fun _ hu =>
    concludes_bind (doChecksum_reads _ _ _ .refl) fun _ hr =>
      have hv := rests_of_mapEntered hu.1 hu.2 hr.1
      .returns _ hv.1 hv.2

theorem execVerify_ended {flash ram n : Word} {head tail : BitVec 4} (h : execVerify flash ram n head tail s = .next t) :
    Ended .command s t :=
  runCommand_ended h <| concludes_requireRange <| concludes_bind (doMapEnable_runs (by simp) .refl) fun _ hu =>
    concludes_bind (doChecksum_reads _ _ _ .refl) fun _ hr =>
      concludes_bind (compareLoop_reads _ _ _ hr.1) fun r hc => by
        have hv := rests_of_mapEntered hu.1 hu.2 hc
        rcases r with ⟨_ | a, v⟩
        · exact .returns _ hv.1 hv.2
        · exact .differs _ hv.1 hv.2

theorem execMmapEnable_ended (h : execMmapEnable s = .next t) : Ended .command s t :=
  runCommand_ended h <| concludes_bind (doMapEnable_runs (by simp) .refl) fun _ hu =>
    have hv := rests_of_mapEntered hu.1 hu.2 .refl
    .returns 1 hv.1 hv.2

theorem execInit_ended (h : execInit s = .next t) : s.profileIn.legal = true ∧ Ended .configure (latchProfile s) t := by
  unfold execInit at h
  split at h
  case isFalse => cases h
  case isTrue hlegal =>
  refine ⟨hlegal, runCommand_ends h (fun k hk => ?_) fun _ => ?_⟩
  · cases hc : s.chipState <;> simp [admission, hc] at hk
  · exact concludes_bind (bus_runs (by simp) .busInit .refl) fun _ h1 =>
      concludes_bind (doReset_runs h1) fun _ h2 =>
        concludes_bind (doPollReady_runs (by simp) _ h2.1) fun _ h3 =>
          concludes_bind (doConfigure_runs h3) fun u h4 =>
            concludes_bind (doMapEnable_runs (by simp) h4.1) fun v h5 => by
              obtain ⟨⟨hacts, hchip⟩, hm | rfl⟩ := h5
              · exact .returns 1 hacts ⟨by rw [hchip]; rfl, fun _ => .inl hm⟩
              · exact absurd (h4.2.symm.trans hchip) (by decide)

theorem execWrite_ended {address size buffer : Word} (h : execWrite address size buffer s = .next t) :
    Ended .command s t :=
  runCommand_ended h <| concludes_requireRange <| concludes_bind (doMapDisable_runs (by simp) .refl) fun _ hu =>
    concludes_returns_one rfl (by decide) <|
      writeLoop_runs (by simp) _ _ _ _ _ _ ⟨hu.1.tail (.cursor (by simp) _ _), hu.2⟩

theorem execSectorErase_ended {a e : Word} (h : execSectorErase a e s = .next t) : Ended .command s t :=
  runCommand_ended h <| concludes_requireRange <| concludes_bind (doMapDisable_runs (by simp) .refl) fun _ hu =>
    concludes_returns_one rfl (by decide) <|
      eraseLoop_runs (by simp) _ _ _ _ ⟨hu.1.tail (.range (by simp) _ _), hu.2⟩

theorem execMassErase_ended {p : Word} (h : execMassErase p s = .next t) : Ended .command s t :=
  runCommand_ended h <| concludes_bind (doMapDisable_runs (by simp) .refl) fun _ hu =>
    concludes_returns_one rfl (by decide) (doEraseChip_runs (by simp) hu.1)

theorem execWriteEnable_ended (h : execWriteEnable s = .next t) : Ended .command s t :=
  runCommand_ended h <| concludes_bind (doWriteEnable_runs (by simp) .refl) fun _ hu =>
    .returns 1 (hu.tail (.chip (by simp) _ _)) (rests_of_ne_memoryMapped rfl (by simp))

theorem afterPollReady_eq (c : ChipState) : afterPollReady c = .reset ∨ afterPollReady c = .idle := by
  cases c <;> decide

theorem execPollReady_ended {w : Word} (h : execPollReady w s = .next t) : Ended .command s t :=
  runCommand_ended h <| concludes_bind (doPollReady_runs (by simp) w .refl) fun u hu => by
    refine .returns 1 (hu.tail (.chip (by simp) _ _)) (rests_of_ne_memoryMapped ?_ ?_) <;>
      rcases afterPollReady_eq u.chipState with h | h <;> simp [h, isResting]

theorem execEraseSector_ended {addr : Word} (h : execEraseSector addr s = .next t) : Ended .command s t :=
  runCommand_ended h <| concludes_requireRange <|
    concludes_returns_one rfl (by decide) (doEraseSector_runs (by simp) _ .refl)

theorem execReset_ended (h : execReset s = .next t) : Ended .configure s t :=
  runCommand_ended h <| concludes_returns_one rfl (by decide) (doReset_runs .refl)

theorem execConfigure_ended (h : execConfigure s = .next t) : Ended .configure s t :=
  runCommand_ended h <| concludes_returns_one rfl (by decide) (doConfigure_runs .refl)

theorem execEraseChip_ended (h : execEraseChip s = .next t) : Ended .command s t :=
  runCommand_ended h <| concludes_returns_one rfl (by decide) (doEraseChip_runs (by simp) .refl)

theorem execMmapDisable_ended (h : execMmapDisable s = .next t) : Ended .command s t :=
  runCommand_ended h <| concludes_returns_one rfl (by decide) (doMapDisable_runs (by simp) .refl)

/-- Where every command can end. -/
theorem exec_ended {i : Instr} (h : exec i s = .next t) : Ended (accessOf i) (started i s) t := by
  cases i with
  | init => exact (execInit_ended h).2
  | write => exact execWrite_ended h
  | sectorErase => exact execSectorErase_ended h
  | massErase p => exact execMassErase_ended (p := p) h
  | checksum => exact execChecksum_ended h
  | verify => exact execVerify_ended h
  | reset => exact execReset_ended h
  | writeEnable => exact execWriteEnable_ended h
  | pollReady => exact execPollReady_ended h
  | configure => exact execConfigure_ended h
  | eraseSector => exact execEraseSector_ended h
  | eraseChip => exact execEraseChip_ended h
  | mmapEnable => exact execMmapEnable_ended h
  | mmapDisable => exact execMmapDisable_ended h

/-- The row of a command in the table of 40 R120. -/
def rowOf : Instr → AdmissionRow
  | .init => .initialise
  | .reset | .pollReady _ | .configure => .recovery
  | .writeEnable | .eraseSector _ | .eraseChip => .commandMode
  | .write _ _ _ | .sectorErase _ _ | .massErase _ | .checksum _ _ _ | .verify _ _ _ _ _ | .mmapEnable
  | .mmapDisable => .anyMode

/-- Every command but `INIT`, which looks at `profileIn` first, is its row of the table and its pseudocode. -/
theorem exec_eq_runCommand {i : Instr} (hi : i ≠ .init) (s : State) :
    ∃ body, exec i s = runCommand (rowOf i) body s := by
  cases i with
  | init => exact absurd rfl hi
  | _ =>
    simp only [exec, execWrite, execSectorErase, execMassErase, execChecksum, execVerify, execReset, execWriteEnable,
      execPollReady, execConfigure, execEraseSector, execEraseChip, execMmapEnable, execMmapDisable]
    exact ⟨_, rfl⟩

/-- A cell that rejects is the whole command. -/
theorem exec_rejected {i : Instr} {k : ErrKind} (h : admission (rowOf i) s.chipState = .rejected k) :
    exec i s = .next (raise k s) := by
  by_cases hi : i = .init
  · subst hi
    cases hc : s.chipState <;> simp [rowOf, admission, hc] at h
  · obtain ⟨body, hbody⟩ := exec_eq_runCommand hi s
    rw [hbody, runCommand_rejected h]

/-- In `Uninitialized` every command but `INIT` is rejected (60 R215). -/
theorem exec_uninitialized {i : Instr} (hi : i ≠ .init) (hc : s.chipState = .uninitialized) :
    exec i s = .next (raise .notInitialized s) := by
  apply exec_rejected
  rw [hc]
  cases i with
  | init => exact absurd rfl hi
  | _ => rfl

end

/-! ### The frame of every command -/

section
variable {l : Access} {s t : State}

/-- What every action and the ends of a command keep, the command keeps. -/
theorem ended_keep {β : Type} (f : State → β) (hf : ∀ u, Acts l s u → f u = f s) (hr : ∀ k u, f (raise k u) = f u)
    (hc : ∀ v u, f (complete v u) = f u) (hm : ∀ u, f (setMismatch u) = f u) (h : Ended l s t) : f t = f s := by
  cases h with
  | waits h => exact hf t h
  | @fails k u _ h => exact (hr k u).trans (hf u h)
  | rejected => exact hr _ s
  | @returns u v h => exact (hc v u).trans (hf u h)
  | @differs u v h => exact (hc v _).trans ((hm u).trans (hf u h))

theorem ended_hostParts (h : Ended l s t) : hostParts t = hostParts s :=
  ended_keep hostParts (fun _ => acts_hostParts) (fun _ _ => rfl) (fun _ _ => rfl) (fun _ => rfl) h

theorem ended_profile (h : Ended l s t) : t.profile = s.profile :=
  ended_keep (·.profile) (fun _ => acts_profile) (fun _ _ => rfl) (fun _ _ => rfl) (fun _ => rfl) h

theorem ended_iface (hl : l ≠ .configure) (h : Ended l s t) : t.iface = s.iface :=
  ended_keep (·.iface) (fun _ => acts_iface hl) (fun _ _ => rfl) (fun _ _ => rfl) (fun _ => rfl) h

theorem ended_traceGrows (h : Ended l s t) : TraceGrows s t := by
  cases h with
  | waits h => exact acts_traceGrows h
  | fails _ h => exact traceGrows_trans (acts_traceGrows h) (traceGrows_of_same rfl rfl)
  | rejected => exact traceGrows_of_same rfl rfl
  | returns _ h => exact traceGrows_trans (acts_traceGrows h) (traceGrows_of_same rfl rfl)
  | differs _ h => exact traceGrows_trans (acts_traceGrows h) (traceGrows_of_same rfl rfl)

end

/-- Latching the profile is no output and writes none of the host's parts. -/
theorem started_frame (i : Instr) (s : State) :
    hostParts (started i s) = hostParts s ∧ (started i s).trace = s.trace ∧ (started i s).txCount = s.txCount ∧
      (started i s).iface = s.iface := by
  cases i <;> exact ⟨rfl, rfl, rfl, rfl⟩

theorem accessOf_ne_configure {i : Instr} (h1 : i ≠ .init) (h2 : i ≠ .reset) (h3 : i ≠ .configure) :
    accessOf i ≠ .configure := by
  cases i with
  | init => exact absurd rfl h1
  | reset => exact absurd rfl h2
  | configure => exact absurd rfl h3
  | _ => simp [accessOf]

/-- Settles O21: every action keeps what the host holds and only adds to the trace. -/
theorem commandsNeverWriteArgumentsOrMemory : Obligations.CommandsNeverWriteArgumentsOrMemory := by
  unfold Obligations.CommandsNeverWriteArgumentsOrMemory
  intro i s t h
  have hend := exec_ended h
  obtain ⟨hparts, htrace, hcount, -⟩ := started_frame i s
  have hkept := (ended_hostParts hend).trans hparts
  simp only [hostParts, Prod.mk.injEq] at hkept
  obtain ⟨hcmd, h0, h1, h2, h3, hplatform, hport, hcollab, hforced, hmoves, hdata, hram⟩ := hkept
  exact ⟨hcmd, h0, h1, h2, h3, hplatform, hport, hcollab, hforced, hmoves, hdata, fun a => by rw [hram], hram,
    traceGrows_trans (traceGrows_of_same htrace hcount) (ended_traceGrows hend)⟩

/-- Settles O22: no action writes `P`, and none but those of the three commands writes `InterfaceState`. -/
theorem ownersOfProfileAndInterface : Obligations.OwnersOfProfileAndInterface := by
  unfold Obligations.OwnersOfProfileAndInterface
  intro i s t h
  have hprofile := ended_profile (exec_ended h)
  refine ⟨fun hi => ?_, fun hi => ?_, fun h1 h2 h3 => ?_⟩
  · rwa [started_of_ne_init hi] at hprofile
  · subst hi
    exact hprofile
  · obtain ⟨-, -, -, hiface⟩ := started_frame i s
    exact (ended_iface (accessOf_ne_configure h1 h2 h3) (exec_ended h)).trans hiface

end Sys2Proof.Machine

/-! PROOF. The moves of the host: what each write and read of the register port does, and everything a move can do
to the state (10 R21 to R23; 20 R56, R69 to R71; 30 R100; 70 R240, R251). -/

namespace Sys2Proof.Machine

section
variable {s t : State}

/-! ### One step is one move -/

theorem step_eq_hostMove {m : HostMove} {rest : List HostMove} (h : s.moves = m :: rest) :
    step s = hostMove m { s with moves := rest } := by
  simp [step, nextMove, h]

theorem step_eq_self (h : s.moves = []) : step s = .next s := by
  simp [step, nextMove, h]

/-! ### Writes to the register port -/

theorem writeCommand_busy (v : Word) (hb : s.busy = true) : writeCommand v s = .next s := by
  simp [writeCommand, hb]

theorem writeCommand_idle (v : Word) (hb : s.busy = false) :
    writeCommand v s = runAccepted (decode (latchedWords s v)) (accept (commandCode (latchedWords s v)) s) := by
  simp [writeCommand, hb]

/-- A word that decodes runs its command on the accepted state. -/
theorem writeCommand_accepts {v : Word} {i : Instr} (hb : s.busy = false) (hd : decode (latchedWords s v) = .ok i) :
    writeCommand v s = exec i (accept (commandCode (latchedWords s v)) s) := by
  rw [writeCommand_idle v hb, hd]
  rfl

theorem writeArg_busy (i : Nat) (v : Word) (hb : s.busy = true) : writeArg i v s = s := by
  simp [writeArg, hb]

theorem writeArg0_idle (v : Word) (hb : s.busy = false) : writeArg 0 v s = { s with arg0 := v } := by
  simp [writeArg, hb]

theorem writeArg1_idle (v : Word) (hb : s.busy = false) : writeArg 1 v s = { s with arg1 := v } := by
  simp [writeArg, hb]

theorem writeArg2_idle (v : Word) (hb : s.busy = false) : writeArg 2 v s = { s with arg2 := v } := by
  simp [writeArg, hb]

theorem writeArg3_idle (v : Word) (hb : s.busy = false) : writeArg 3 v s = { s with arg3 := v } := by
  simp [writeArg, hb]

/-- A write to an argument register touches the argument registers alone (10 R21). -/
theorem writeArg_frame (i : Nat) (v : Word) :
    writeArg i v s =
      { s with
        arg0 := (writeArg i v s).arg0, arg1 := (writeArg i v s).arg1, arg2 := (writeArg i v s).arg2,
        arg3 := (writeArg i v s).arg3 } := by
  unfold writeArg
  split
  · rfl
  · split <;> rfl

theorem writeRegisterPort_refused {off width : Nat} (v : Word)
    (h : width ≠ 4 ∨ off ∉ [0x00, 0x04, 0x08, 0x0C, 0x10, 0x14, 0x18, 0x1C]) :
    writeRegisterPort off width v s = .refused (.hostAccess off width) := by
  unfold writeRegisterPort
  split
  · have hoff := h.resolve_left (not_not_intro ‹width = 4›)
    split <;> simp_all
  · rfl

/-- While `BUSY = 1` a write to `CMD` or to an argument register is ignored (10 R21, R23). -/
theorem writeRegisterPort_busy {off : Nat} (v : Word) (h : off ∈ [0x00, 0x04, 0x08, 0x0C, 0x10]) (hb : s.busy = true) :
    writeRegisterPort off 4 v s = .next s := by
  simp only [List.mem_cons, List.not_mem_nil, or_false] at h
  rcases h with rfl | rfl | rfl | rfl | rfl
  · exact writeCommand_busy v hb
  all_goals exact congrArg Host.Outcome.next (writeArg_busy _ v hb)

theorem writeRegisterPort_readOnly {off : Nat} (v : Word) (h : off ∈ [0x14, 0x18, 0x1C]) :
    writeRegisterPort off 4 v s = .next s := by
  simp only [List.mem_cons, List.not_mem_nil, or_false] at h
  rcases h with rfl | rfl | rfl <;> rfl

/-- Settles O15: the rules of the register port, one for each kind of write. -/
theorem registerPortWrites : Obligations.RegisterPortWrites := by
  unfold Obligations.RegisterPortWrites
  intro s off width v rest hm
  have hstep : step s = writeRegisterPort off width v { s with moves := rest } := step_eq_hostMove hm
  rw [hstep]
  refine ⟨writeRegisterPort_refused v, ?_, ?_, ?_, ?_, ?_, ?_⟩
  · rintro rfl rfl hb
    exact congrArg Host.Outcome.next (writeArg0_idle v hb)
  · rintro rfl rfl hb
    exact congrArg Host.Outcome.next (writeArg1_idle v hb)
  · rintro rfl rfl hb
    exact congrArg Host.Outcome.next (writeArg2_idle v hb)
  · rintro rfl rfl hb
    exact congrArg Host.Outcome.next (writeArg3_idle v hb)
  · rintro rfl hoff hb
    exact writeRegisterPort_busy v hoff hb
  · rintro rfl hoff
    exact writeRegisterPort_readOnly v hoff

/-- Settles O12: an idle block accepts a `CMD` write, and a word that decodes runs its command. -/
theorem stepRunsDecodedCommand : Obligations.StepRunsDecodedCommand := by
  unfold Obligations.StepRunsDecodedCommand
  intro s v rest i hm hb hd
  exact (step_eq_hostMove hm).trans (writeCommand_accepts (s := { s with moves := rest }) hb hd)

/-! ### Reads of the register port -/

theorem hostRead_of_some {off : Nat} {v : Word} (h : readRegisterPort off s = some v) :
    hostRead off 4 s = .next { s with hostData := v } := by
  simp [hostRead, h]

/-- Every register of the table of 10 section 2 can be read. -/
theorem readRegisterPort_isSome {off : Nat} (h : off ∈ [0x00, 0x04, 0x08, 0x0C, 0x10, 0x14, 0x18, 0x1C]) :
    ∃ v, readRegisterPort off s = some v := by
  simp only [List.mem_cons, List.not_mem_nil, or_false] at h
  rcases h with rfl | rfl | rfl | rfl | rfl | rfl | rfl | rfl <;> exact ⟨_, rfl⟩

theorem hostRead_refused {off width : Nat}
    (h : width ≠ 4 ∨ off ∉ [0x00, 0x04, 0x08, 0x0C, 0x10, 0x14, 0x18, 0x1C]) :
    hostRead off width s = .refused (.hostAccess off width) := by
  by_cases hw : width = 4
  · have hoff := h.resolve_left (not_not_intro hw)
    have hnone : readRegisterPort off s = none := by
      unfold readRegisterPort
      split <;> simp_all
    simp [hostRead, hnone]
  · simp [hostRead, hw]

/-- What a read of a register answers (10 R20 to R24). -/
theorem readRegisterPort_value {off : Nat} {v : Word} (h : readRegisterPort off s = some v) :
    (off = 0x00 → v.toNat = s.cmd.toNat) ∧ (off = 0x04 → v = s.arg0) ∧ (off = 0x08 → v = s.arg1) ∧
      (off = 0x0C → v = s.arg2) ∧ (off = 0x10 → v = s.arg3) ∧
      (off = 0x14 → s.busy = false → v = s.resLo) ∧ (off = 0x18 → s.busy = false → v = s.resHi) ∧
      (off = 0x14 ∨ off = 0x18 → s.busy = true → v = 0) ∧ (off = 0x1C → v = statusWord s) := by
  refine ⟨?_, ?_, ?_, ?_, ?_, ?_, ?_, ?_, ?_⟩
  · rintro rfl
    cases h
    exact BitVec.toNat_setWidth_of_le (by decide)
  · rintro rfl
    exact (Option.some.inj h).symm
  · rintro rfl
    exact (Option.some.inj h).symm
  · rintro rfl
    exact (Option.some.inj h).symm
  · rintro rfl
    exact (Option.some.inj h).symm
  · rintro rfl hb
    simpa [readRegisterPort, hb] using h.symm
  · rintro rfl hb
    simpa [readRegisterPort, hb] using h.symm
  · rintro (rfl | rfl) hb <;> simpa [readRegisterPort, hb] using h.symm
  · rintro rfl
    exact (Option.some.inj h).symm

/-- Settles O16: the value of each register, the refused accesses, and `WAIT` by `DONE`. -/
theorem registerPortReads : Obligations.RegisterPortReads := by
  unfold Obligations.RegisterPortReads
  intro s rest
  refine ⟨fun off hm hoff => ?_, fun off width hm hoff => ?_, fun hm => ⟨fun hd => ?_, fun hd => ?_⟩⟩
  · obtain ⟨v, hv⟩ := readRegisterPort_isSome (s := { s with moves := rest }) hoff
    exact ⟨v, (step_eq_hostMove hm).trans (hostRead_of_some hv), readRegisterPort_value hv⟩
  · exact (step_eq_hostMove hm).trans (hostRead_refused hoff)
  · rw [step_eq_hostMove hm]
    simp [hostMove, hostWait, hd, statusWord]
  · rw [step_eq_hostMove hm]
    simp [hostMove, hostWait, hd, statusWord, ← hm]

/-! ### The `profileIn` port -/

/-- Settles O18: the port checks the profile, and writes itself alone. -/
theorem profilePortHasNoEffectUntilInit : Obligations.ProfilePortHasNoEffectUntilInit := by
  unfold Obligations.ProfilePortHasNoEffectUntilInit
  intro s p rest hm
  have hstep : step s = driveProfileIn p { s with moves := rest } := step_eq_hostMove hm
  rw [hstep]
  exact ⟨fun hp => by simp [driveProfileIn, hp], fun hp => by simp [driveProfileIn, hp]⟩

/-- Settles O43. -/
theorem initRefusesIllegalProfile : Obligations.InitRefusesIllegalProfile := by
  unfold Obligations.InitRefusesIllegalProfile
  intro s h
  simp [exec, execInit, h]

/-! ### Everything a move can do -/

/-- The effect of a move on the state from which it has been taken off the list. -/
inductive MoveEffect (s : State) (m : HostMove) (t : State) : Prop
  /-- Nothing of the block: the host has read, or driven the port, or its write was ignored. -/
  | kept (h : t = { s with moves := t.moves, hostData := t.hostData, profileIn := t.profileIn })
  /-- An idle block took an argument (10 R21). -/
  | argument (hb : s.busy = false) (h : t = { s with arg0 := t.arg0, arg1 := t.arg1, arg2 := t.arg2, arg3 := t.arg3 })
  /-- An idle block accepted a command, which ran (10 R23). -/
  | command (hb : s.busy = false) (v : Word)
      (h : runAccepted (decode (latchedWords s v)) (accept (commandCode (latchedWords s v)) s) = .next t)
  /-- A byte went into RAM (20 R71). -/
  | store (a : Word) (b : Byte) (hr : inRam s a.toNat = true) (h : t = { s with ram := memPut s.ram a.toNat b })
  /-- The block was reset (70 R240). -/
  | reset (hm : m = .hardwareReset) (h : t = hardwareReset s)

theorem writeArg_effect (m : HostMove) (i : Nat) (v : Word) : MoveEffect s m (writeArg i v s) := by
  by_cases hb : s.busy = true
  · rw [writeArg_busy i v hb]
    exact .kept rfl
  · exact .argument (by simpa using hb) (writeArg_frame i v)

theorem writeRegisterPort_effect {off width : Nat} {v : Word} (m : HostMove)
    (h : writeRegisterPort off width v s = .next t) : MoveEffect s m t := by
  unfold writeRegisterPort at h
  split at h
  case isFalse => cases h
  split at h
  case h_1 =>
    by_cases hb : s.busy = true
    · rw [writeCommand_busy v hb] at h
      cases h
      exact .kept rfl
    · have hb : s.busy = false := by simpa using hb
      exact .command hb v (writeCommand_idle v hb ▸ h)
  all_goals cases h
  case h_2 | h_3 | h_4 | h_5 => exact writeArg_effect m _ v
  all_goals exact .kept rfl

/-- Everything a move of the host can do. -/
theorem hostMove_effect {m : HostMove} (h : hostMove m s = .next t) : MoveEffect s m t := by
  cases m with
  | write off width v => exact writeRegisterPort_effect _ h
  | read off width =>
    unfold hostMove hostRead at h
    dsimp only at h
    split at h <;> cases h
    exact .kept rfl
  | waitDone =>
    cases h
    refine .kept ?_
    unfold hostWait
    split <;> rfl
  | store a b =>
    unfold hostMove hostStore at h
    dsimp only at h
    split at h
    · cases h
    split at h
    · cases h
    split at h <;> cases h
    exact .store a b (by simpa using ‹¬ (!inRam s a.toNat) = true›) rfl
  | load a =>
    unfold hostMove hostLoad at h
    dsimp only at h
    split at h <;> cases h
    exact .kept rfl
  | driveProfile p =>
    unfold hostMove driveProfileIn at h
    dsimp only at h
    split at h <;> cases h
    exact .kept rfl
  | hardwareReset =>
    cases h
    exact .reset rfl rfl

end

/-- Settles O14: of the effects of a move, a busy block admits only those outside it. -/
theorem busyBlockIgnoresHost : Obligations.BusyBlockIgnoresHost := by
  unfold Obligations.BusyBlockIgnoresHost
  intro s t hbusy h hreset
  cases hm : s.moves with
  | nil =>
    rw [step_eq_self hm] at h
    cases h
    rfl
  | cons m rest =>
    rw [step_eq_hostMove hm] at h
    cases hostMove_effect h with
    | kept ht => rw [ht]
    | argument hidle => exact absurd (hbusy.symm.trans hidle) (by decide)
    | command hidle => exact absurd (hbusy.symm.trans hidle) (by decide)
    | store a b _ ht => rw [ht]
    | reset hres => exact absurd (by rw [hm, hres]; rfl) hreset

end Sys2Proof.Machine

/-! PROOF. The invariant (10 R25, R27, R33, R34; 60 R218): what holds while a command acts, and how each end of a
command and each move of the host restores the invariant. -/

namespace Sys2Proof.Machine

/-! ### The ends of a command -/

section
variable {s t : State}

/-- The state right after acceptance (10 R23), or after `INIT` has latched the profile. -/
structure Accepted (s : State) : Prop where
  inv : Inv s
  busy : s.busy = true
  resting : isResting s.chipState = true
  mirrors : s.chipState = .memoryMapped → s.mapped = true

theorem accepted_accept {code : Byte} (h : Inv s) (hb : s.busy = false) : Accepted (accept code s) where
  inv :=
    { h with
      resting := fun hf => absurd hf (by simp)
      noTransients := fun hf => absurd hf (by simp)
      mirrorsMapped := fun hf => absurd hf (by simp)
      busyClear := fun _ => ⟨rfl, rfl, rfl, rfl, rfl⟩
      errorClears := fun he => absurd rfl he
      errorLosesDevice := fun he => absurd he (by simp [isBusKind]) }
  busy := rfl
  resting := h.resting hb
  mirrors := h.mirrorsMapped hb

theorem accepted_latchProfile (h : Accepted s) (hp : s.profileIn.legal = true) : Accepted (latchProfile s) :=
  { h with inv := { h.inv with profileLegal := fun _ => hp } }

/-- A `raise` ends a command in the invariant: it clears what an error clears, and a kind that does not lose the
device finds the block at rest (60 R218). -/
theorem inv_raise {k : ErrKind} (h : Inv s)
    (hk : isBusKind k = true ∨ (isResting s.chipState = true ∧ (s.chipState = .memoryMapped → s.mapped = true))) :
    Inv (raise k s) where
  resting _ := by
    rw [raise_chipState]
    split
    · rfl
    · exact (hk.resolve_left ‹_›).1
  noTransients _ := ⟨rfl, rfl, rfl⟩
  profileLegal hc := by
    rw [raise_chipState] at hc
    split at hc
    · exact absurd rfl hc
    · exact h.profileLegal hc
  mirrorsMapped _ hc := by
    rw [raise_chipState] at hc
    split at hc
    · cases hc
    · exact (hk.resolve_left ‹_›).2 hc
  busyClear hb := absurd hb (by simp)
  errorClears _ := ⟨rfl, rfl, rfl⟩
  errorLosesDevice he := by
    rw [raise_err] at he
    rw [raise_chipState, if_pos he]
  ramWf := h.ramWf
  flashWf := h.flashWf
  ramBounded := h.ramBounded
  ramBacked := h.ramBacked

/-- A `return` ends a command that rests in the invariant, whatever `MISMATCH` says. -/
theorem inv_return (h : Inv s) (v : DWord) (b : Bool) (hr : isResting s.chipState = true)
    (hm : s.chipState = .memoryMapped → s.mapped = true) : Inv { complete v s with mismatch := b } where
  resting _ := hr
  noTransients _ := ⟨rfl, rfl, rfl⟩
  profileLegal := h.profileLegal
  mirrorsMapped _ := hm
  busyClear hb := absurd hb (by simp)
  errorClears he := absurd rfl he
  errorLosesDevice he := absurd he (by simp [isBusKind])
  ramWf := h.ramWf
  flashWf := h.flashWf
  ramBounded := h.ramBounded
  ramBacked := h.ramBacked

/-! ### While a command acts -/

/-- What holds at every point of an admitted command: the results are clear, the profile in use is legal, the memories
are canonical; `chipState`, the bus and the transient values may be anything. -/
structure Running (s : State) : Prop where
  busy : s.busy = true
  clear : s.done = false ∧ s.err = .noError ∧ s.mismatch = false ∧ s.resLo = 0 ∧ s.resHi = 0
  legal : s.profile.legal = true
  ramWf : memWf ramUnlisted s.ram
  flashWf : memWf (some erasedByte) s.dev.flash
  ramBounded : ∀ c ∈ s.ram, c.1 < 2 ^ 32
  ramBacked : ∀ c ∈ s.ram, inRam s c.1 = true

theorem running_of_accepted (h : Accepted s) (hp : s.profile.legal = true) : Running s :=
  { h.inv with busy := h.busy, clear := h.inv.busyClear h.busy, legal := hp }

theorem inv_of_running (h : Running s) : Inv s := by
  have hbusy : s.busy ≠ false := by simp [h.busy]
  obtain ⟨-, herr, -⟩ := h.clear
  exact
    { h with
      resting := fun hf => absurd hf hbusy
      noTransients := fun hf => absurd hf hbusy
      profileLegal := fun _ => h.legal
      mirrorsMapped := fun hf => absurd hf hbusy
      busyClear := fun _ => h.clear
      errorClears := fun he => absurd herr he
      errorLosesDevice := fun he => absurd he (by simp [herr, isBusKind]) }

/-- Every action keeps it; of the memories only a transaction writes one, the device's. -/
theorem running_action {l : Access} (h : Running s) (ha : Action l s t) : Running t := by
  cases ha with
  | transaction _ hx => exact { h with flashWf := answerTxn_flashWf hx h.flashWf }
  | memRead | accumulator | chip | range | cursor | interface => exact { h with }

theorem running_acts {l : Access} (h : Running s) (ha : Acts l s t) : Running t := by
  induction ha with
  | refl => exact h
  | tail _ ha ih => exact running_action ih ha

/-- A command that acts ends in the invariant, or waits in it. -/
theorem inv_of_ended {l : Access} (h : Accepted s) (hp : s.profile.legal = true) (he : Ended l s t) : Inv t := by
  have hacts : ∀ {u}, Acts l s u → Inv u := fun ha => inv_of_running (running_acts (running_of_accepted h hp) ha)
  have hmapped : ∀ {u}, Rests s u → u.chipState = .memoryMapped → u.mapped = true := fun hr hu => by
    rcases hr.2 hu with hm | ⟨hs, hm⟩
    · exact hm
    · exact hm.trans (h.mirrors hs)
  cases he with
  | waits ha => exact hacts ha
  | fails hk ha => exact inv_raise (hacts ha) (.inl hk)
  | rejected => exact inv_raise h.inv (.inr ⟨h.resting, h.mirrors⟩)
  | @returns u v ha hr => exact inv_return (hacts ha) v u.mismatch hr.1 (hmapped hr)
  | differs v ha hr => exact inv_return (hacts ha) v true hr.1 (hmapped hr)

/-- An accepted command keeps the invariant. -/
theorem inv_exec {i : Instr} (h : Accepted s) (hx : exec i s = .next t) : Inv t := by
  by_cases hi : i = .init
  · subst hi
    obtain ⟨hlegal, hend⟩ := execInit_ended hx
    exact inv_of_ended (accepted_latchProfile h hlegal) hlegal hend
  · have hend := exec_ended hx
    rw [started_of_ne_init hi] at hend
    by_cases hc : s.chipState = .uninitialized
    · rw [exec_uninitialized hi hc] at hx
      cases hx
      exact inv_raise h.inv (.inr ⟨h.resting, h.mirrors⟩)
    · exact inv_of_ended h (h.inv.profileLegal hc) hend

theorem inv_runAccepted {d : Except DecodeRejection Instr} (h : Accepted s) (hx : runAccepted d s = .next t) : Inv t := by
  rcases d with ⟨⟨code⟩⟩ | i
  · cases hx
    exact inv_raise h.inv (.inr ⟨h.resting, h.mirrors⟩)
  · exact inv_exec h hx

/-! ### The moves of the host -/

/-- The invariant does not look at the argument registers, the port, or the host. -/
theorem inv_hostParts (h : Inv s) (a0 a1 a2 a3 d : Word) (p : DeviceProfile) (ms : List HostMove) :
    Inv { s with arg0 := a0, arg1 := a1, arg2 := a2, arg3 := a3, hostData := d, profileIn := p, moves := ms } :=
  { h with }

/-- A byte stored into RAM lies at a 32-bit address of RAM (20 R50, R59). -/
theorem inv_store (h : Inv s) (a : Word) (b : Byte) (hr : inRam s a.toNat = true) :
    Inv { s with ram := memPut s.ram a.toNat b } :=
  { h with
    ramWf := memPut_ram_wf _ _ h.ramWf
    ramBounded := fun c hc => by
      rcases mem_memPut hc with rfl | hc
      · exact a.isLt
      · exact h.ramBounded c hc
    ramBacked := fun c hc => by
      rcases mem_memPut hc with rfl | hc
      · exact hr
      · exact h.ramBacked c hc }

theorem inv_hardwareReset (h : Inv s) : Inv (hardwareReset s) :=
  { h with
    resting := fun _ => rfl
    noTransients := fun _ => ⟨rfl, rfl, rfl⟩
    profileLegal := fun hc => absurd rfl hc
    mirrorsMapped := fun _ hc => by cases hc
    busyClear := fun hb => absurd hb (by simp)
    errorClears := fun he => absurd rfl he
    errorLosesDevice := fun _ => rfl }

theorem inv_moveEffect {m : HostMove} (h : Inv s) (he : MoveEffect s m t) : Inv t := by
  cases he with
  | kept ht => exact ht ▸ inv_hostParts h _ _ _ _ _ _ _
  | argument _ ht => exact ht ▸ inv_hostParts h _ _ _ _ _ _ _
  | command hb v hx => exact inv_runAccepted (accepted_accept h hb) hx
  | store a b hr ht => exact ht ▸ inv_store h a b hr
  | reset _ ht => exact ht ▸ inv_hardwareReset h

end

/-- Settles O20: by what a move can do, and for a `CMD` write by the ends of the command. -/
theorem stepKeepsInvariant : Obligations.StepKeepsInvariant := by
  unfold Obligations.StepKeepsInvariant
  intro s t hinv h
  cases hm : s.moves with
  | nil =>
    rw [step_eq_self hm] at h
    cases h
    exact hinv
  | cons m rest =>
    rw [step_eq_hostMove hm] at h
    have hrest : Inv { s with moves := rest } := { hinv with }
    exact inv_moveEffect hrest (hostMove_effect h)

/-- Settles O19: the reset state has its registers clear and its memories empty. -/
theorem invariantAtReset : Obligations.InvariantAtReset where
  resting _ := rfl
  noTransients _ := ⟨rfl, rfl, rfl⟩
  profileLegal hc := absurd rfl hc
  mirrorsMapped _ hc := by cases hc
  busyClear hb := by cases hb
  errorClears he := absurd rfl he
  errorLosesDevice _ := rfl
  ramWf := reset_memories_wf.1
  flashWf := reset_memories_wf.2
  ramBounded _ hc := by cases hc
  ramBacked _ hc := by cases hc

end Sys2Proof.Machine

/-! PROOF. `STATUS` and the registers after reset (10 R24, R25, R34; 60 R210). -/

namespace Sys2Proof.Machine

/-! ### Bits and fields of a concatenation -/

theorem getLsbD_append_above {n w i : Nat} {hi : BitVec n} {lo : BitVec w} (h : w ≤ i) :
    (hi ++ lo).getLsbD i = hi.getLsbD (i - w) := by
  rw [BitVec.getLsbD_append, if_neg (Nat.not_lt.mpr h)]

theorem getLsbD_append_below {n w i : Nat} {hi : BitVec n} {lo : BitVec w} (h : i < w) :
    (hi ++ lo).getLsbD i = lo.getLsbD i := by
  rw [BitVec.getLsbD_append, if_pos h]

/-! ### The fields of `STATUS`: each is reached by taking off the fields below it -/

section
variable (s : State)

theorem statusWord_busy : (statusWord s).getLsbD 0 = s.busy := by
  rw [statusWord, getLsbD_append_below (by decide)]
  exact BitVec.getLsbD_ofBool _ _

theorem statusWord_done : (statusWord s).getLsbD 1 = s.done := by
  rw [statusWord, getLsbD_append_above (by decide), getLsbD_append_below (by decide)]
  exact BitVec.getLsbD_ofBool _ _

theorem statusWord_mismatch : (statusWord s).getLsbD 2 = s.mismatch := by
  rw [statusWord]
  iterate 2 rw [getLsbD_append_above (by decide)]
  rw [getLsbD_append_below (by decide)]
  exact BitVec.getLsbD_ofBool _ _

theorem statusWord_err : (statusWord s).extractLsb' 4 3 = errCode s.err := by
  rw [statusWord]
  iterate 4 rw [BitVec.extractLsb'_append_eq_of_le (by decide)]
  exact BitVec.extractLsb'_append_eq_right

theorem statusWord_chip : (statusWord s).extractLsb' 8 3 = chipCode s.chipState := by
  rw [statusWord]
  iterate 6 rw [BitVec.extractLsb'_append_eq_of_le (by decide)]
  exact BitVec.extractLsb'_append_eq_right

theorem statusWord_mode : (statusWord s).extractLsb' 12 2 = modeCode s.iface.mode := by
  rw [statusWord]
  iterate 8 rw [BitVec.extractLsb'_append_eq_of_le (by decide)]
  exact BitVec.extractLsb'_append_eq_right

theorem statusWord_rate : (statusWord s).extractLsb' 14 1 = rateCode s.iface.rate := by
  rw [statusWord]
  iterate 9 rw [BitVec.extractLsb'_append_eq_of_le (by decide)]
  exact BitVec.extractLsb'_append_eq_right

theorem statusWord_width : (statusWord s).extractLsb' 15 1 = widthCode s.iface.addrw := by
  rw [statusWord]
  iterate 10 rw [BitVec.extractLsb'_append_eq_of_le (by decide)]
  exact BitVec.extractLsb'_append_eq_right

theorem statusWord_high : (statusWord s).extractLsb' 16 16 = 0 := by
  rw [statusWord]
  iterate 11 rw [BitVec.extractLsb'_append_eq_of_le (by decide)]
  exact BitVec.extractLsb'_eq_self

theorem statusWord_bit3 : (statusWord s).getLsbD 3 = false := by
  rw [statusWord]
  iterate 3 rw [getLsbD_append_above (by decide)]
  rw [getLsbD_append_below (by decide)]
  rfl

theorem statusWord_bit7 : (statusWord s).getLsbD 7 = false := by
  rw [statusWord]
  iterate 5 rw [getLsbD_append_above (by decide)]
  rw [getLsbD_append_below (by decide)]
  rfl

theorem statusWord_bit11 : (statusWord s).getLsbD 11 = false := by
  rw [statusWord]
  iterate 7 rw [getLsbD_append_above (by decide)]
  rw [getLsbD_append_below (by decide)]
  rfl

end

/-- Settles O4: the place of each field, and the numbers of its code. -/
theorem statusFieldPlaces : Obligations.StatusFieldPlaces := by
  unfold Obligations.StatusFieldPlaces
  intro s
  refine ⟨statusWord_busy s, statusWord_done s, statusWord_mismatch s, ?_, ?_, ?_, ?_, ?_, statusWord_bit3 s,
    statusWord_bit7 s, statusWord_bit11 s, statusWord_high s⟩
  · rw [statusWord_err]
    cases s.err <;> rfl
  · rw [statusWord_chip]
    cases s.chipState <;> rfl
  · rw [statusWord_mode]
    cases s.iface.mode <;> rfl
  · rw [statusWord_rate]
    cases s.iface.rate <;> rfl
  · rw [statusWord_width]
    cases s.iface.addrw <;> rfl

/-- Settles O9: every register of the table reads its reset value, and the reset state has no move. -/
theorem resetState : Obligations.ResetState := by
  unfold Obligations.ResetState
  refine ⟨fun off hoff => ?_, rfl, rfl, rfl, rfl, rfl, rfl, rfl, rfl, rfl, step_eq_self rfl⟩
  simp only [List.mem_cons, List.not_mem_nil, or_false] at hoff
  rcases hoff with rfl | rfl | rfl | rfl | rfl | rfl | rfl | rfl <;> rfl

end Sys2Proof.Machine

/-! PROOF. The `ChecksumAccumulator` after the word loop, and the wait of the commands that map (10 R30; 40 R127; 42
R170; 70 R254). -/

namespace Sys2Proof.Machine

/-! ### Operand checks -/

theorem checksumInRange_iff (s : State) (start size seed : Word) :
    checksumInRange start size = true ↔ ¬ operandsOutOfRange s (.checksum start size seed) := by
  simp [checksumInRange, operandsOutOfRange]

theorem verifyInRange_iff (s : State) (flash ram n : Word) (head tail : BitVec 4) :
    verifyInRange flash ram n head tail = true ↔ ¬ operandsOutOfRange s (.verify flash ram n head tail) := by
  simp only [verifyInRange, operandsOutOfRange, Bool.and_eq_true, decide_eq_true_eq]
  omega

theorem requireRange_ok {b : Bool} (hb : b = true) (s : State) : requireRange b s = .ok s := by
  simp [requireRange, hb]

/-! ### The wait at the mapping transaction -/

/-- A transaction that is never answered is issued, and the command waits; an oracle keeps the device, and the mapped
flag may be anything (log 4). -/
theorem bus_never {t : Txn} {s : State} (h : NeverAnswers s 0) :
    ∃ m, bus t s = .error (.unanswered (setBus m s.dev (logTxn t s))) := by
  obtain ⟨horacle, -, hnever⟩ := h
  rw [Nat.add_zero] at hnever
  exact ⟨_, by simp [bus, issue, answerTxn_oracle horacle, hnever]; rfl⟩

theorem doMapEnable_never {s : State} (hc : s.chipState ≠ .memoryMapped) (h : NeverAnswers s 0) :
    ∃ m, doMapEnable s = .error (.unanswered (setBus m s.dev (logTxn (mapCommand s) s))) := by
  obtain ⟨m, hm⟩ := bus_never (t := mapCommand s) h
  exact ⟨m, by rw [doMapEnable, if_neg hc, hm]; rfl⟩

/-- The three commands that map wait where `EnableMemoryMappedMode()` waits. -/
theorem exec_waits_at_map {i : Instr} {s w : State} (hc : s.chipState = .configured ∨ s.chipState = .idle)
    (hi : (∃ a n v, i = .checksum a n v) ∨ (∃ f r n h e, i = .verify f r n h e) ∨ i = .mmapEnable)
    (hr : ¬ operandsOutOfRange s i) (hw : doMapEnable s = .error (.unanswered w)) : exec i s = .next w := by
  have hadm : admission .anyMode s.chipState = .admitted := by rcases hc with hc | hc <;> rw [hc] <;> rfl
  rcases hi with ⟨a, n, v, rfl⟩ | ⟨f, r, n, h, e, rfl⟩ | rfl
  · rw [exec, execChecksum, runCommand_admitted hadm, requireRange_ok ((checksumInRange_iff s a n v).mpr hr), ok_bind, hw]
    rfl
  · rw [exec, execVerify, runCommand_admitted hadm]
    dsimp only
    rw [requireRange_ok ((verifyInRange_iff s f r n h e).mpr hr), ok_bind, hw]
    rfl
  · rw [exec, execMmapEnable, runCommand_admitted hadm, hw]
    rfl

/-- Settles O33: `Checksum` only reads, so its accumulator is all that it leaves; a mapping transaction that is never
answered comes before every read. -/
theorem checksumAccumulatorHolds : Obligations.ChecksumAccumulatorHolds := by
  unfold Obligations.ChecksumAccumulatorHolds
  refine ⟨fun s t start size seed sum h => ?_, fun i s hc hn hi hr => ?_⟩
  · have hends : Ends _ (fun _ _ => False) (fun _ => False) (doChecksum start size seed s) :=
      doChecksum_reads start size seed .refl
    rw [h] at hends
    obtain ⟨hacts, hacc⟩ := hends
    have ht := acts_read hacts
    rwa [hacc] at ht
  · have hmapped : s.chipState ≠ .memoryMapped := by rcases hc with hc | hc <;> rw [hc] <;> decide
    obtain ⟨m, hm⟩ := doMapEnable_never hmapped hn
    exact ⟨_, exec_waits_at_map hc hi hr hm, rfl⟩

end Sys2Proof.Machine

/-! PROOF. What a `SYS` address reads as: a word from its four bytes, the window, RAM and the host's stores, and a failure
that is injected into the bus (20 R51, R54, R59, R70, R71, R78, R79). -/

namespace Sys2Proof.Machine

section
variable {s : State} {a : Nat}

/-! ### Words -/

theorem memWord_of_bytes {b0 b1 b2 b3 : Byte} (h0 : memByte s a = .ok b0) (h1 : memByte s (a + 1) = .ok b1)
    (h2 : memByte s (a + 2) = .ok b2) (h3 : memByte s (a + 3) = .ok b3) : memWord s a = .ok (b3 ++ b2 ++ b1 ++ b0) := by
  rw [memWord, h0, h1, h2, h3]
  rfl

/-- A byte below a number: the number moves up by eight bits. -/
theorem toNat_append_byte {n : Nat} (hi : BitVec n) (lo : Byte) : (hi ++ lo).toNat = lo.toNat + 2 ^ 8 * hi.toNat := by
  rw [BitVec.toNat_append, Nat.shiftLeft_eq, Nat.mul_comm, ← Nat.two_pow_add_eq_or_of_lt lo.isLt, Nat.add_comm]

end

/-- Settles O8: each byte stands below the bytes of the higher addresses. -/
theorem wordsAreLittleEndian : Obligations.WordsAreLittleEndian := by
  unfold Obligations.WordsAreLittleEndian
  intro s a b0 b1 b2 b3 h0 h1 h2 h3
  refine ⟨_, memWord_of_bytes h0 h1 h2 h3, ?_⟩
  rw [toNat_append_byte, toNat_append_byte, toNat_append_byte]
  omega

section
variable {s : State} {a : Nat}

/-! ### The window and RAM -/

theorem inWindow_iff : inWindow s a = true ↔
    s.platform.mmapBase.toNat ≤ a ∧ a < s.platform.mmapBase.toNat + s.profile.flashSizeBytes := by
  simp [inWindow]

theorem inWindow_eq_false_iff : inWindow s a = false ↔
    a < s.platform.mmapBase.toNat ∨ s.platform.mmapBase.toNat + s.profile.flashSizeBytes ≤ a := by
  rw [← Bool.not_eq_true, inWindow_iff]
  omega

theorem inRam_of_mem {r : RamRegion} (hr : r ∈ s.platform.ramRegions) (hlo : r.base ≤ a) (hhi : a < r.base + r.size) :
    inRam s a = true :=
  List.any_eq_true.mpr ⟨r, hr, by simp [hlo, hhi]⟩

theorem inRam_eq_false_iff : inRam s a = false ↔ ∀ r ∈ s.platform.ramRegions, a < r.base ∨ r.base + r.size ≤ a := by
  simp only [inRam, List.any_eq_false, Bool.and_eq_true, decide_eq_true_eq]
  exact forall₂_congr fun r _ => by omega

theorem memByte_windowNotMapped (hw : inWindow s a = true) (hm : s.mapped = false) :
    memByte s a = .error (.windowNotMapped a) := by
  simp [memByte, hw, hm]

/-- On the reference device the mapped window shows the array (20 R78). -/
theorem memByte_reference {o : Nat} (ho : o < s.profile.flashSizeBytes) (hm : s.mapped = true)
    (hc : s.collab = .reference) : memByte s (s.platform.mmapBase.toNat + o) = .ok (flashGet s.dev.flash o) := by
  have hw : inWindow s (s.platform.mmapBase.toNat + o) = true := inWindow_iff.mpr (by omega)
  simp [memByte, hw, hm, windowByte, hc]

theorem ramGet_of_memFind {m : Memory} {b : Byte} (h : memFind m a = some b) : ramGet m a = b := by
  simp [ramGet, h]

end

/-- Settles O54: an address is in the window, or in RAM, or nothing backs it. -/
theorem windowReads : Obligations.WindowReads := by
  unfold Obligations.WindowReads
  refine fun s => ⟨fun o ho => ⟨memByte_reference ho, memByte_windowNotMapped (inWindow_iff.mpr (by omega))⟩,
    fun a ha => ?_⟩
  have hw : inWindow s a = false := inWindow_eq_false_iff.mpr ha
  refine ⟨fun r hr hlo hhi => ?_, fun hr => memByte_unbacked hw (inRam_eq_false_iff.mpr hr)⟩
  have hram := memByte_ram hw (inRam_of_mem hr hlo hhi)
  exact ⟨fun b hb => by rw [hram, ramGet_of_memFind hb], _, hram⟩

section
variable {s : State} {addr : Word} {b : Byte}

/-! ### Stores of the host -/

theorem hostStore_window (hw : inWindow s addr.toNat = true) :
    hostStore addr b s = .refused (.storeIntoWindow addr.toNat) := by
  simp [hostStore, hw]

theorem hostStore_unbacked (hw : inWindow s addr.toNat = false) (hr : inRam s addr.toNat = false) :
    hostStore addr b s = .fault (.unbackedStore addr.toNat) := by
  simp [hostStore, hw, hr]

theorem hostStore_busyBuffer (hw : inWindow s addr.toNat = false) (hr : inRam s addr.toNat = true)
    (hb : inBusyBuffer s addr.toNat = true) : hostStore addr b s = .refused (.storeIntoBusyBuffer addr.toNat) := by
  simp [hostStore, hw, hr, hb]

theorem hostStore_ram (hw : inWindow s addr.toNat = false) (hr : inRam s addr.toNat = true)
    (hb : inBusyBuffer s addr.toNat = false) : hostStore addr b s = .next { s with ram := memPut s.ram addr.toNat b } := by
  simp [hostStore, hw, hr, hb]

/-- The byte stored last is the one that RAM reads (20 R71). -/
theorem memByte_stored {a : Nat} (hw : inWindow s a = false) (hr : inRam s a = true) :
    memByte { s with ram := memPut s.ram a b } a = .ok b := by
  have hstored : memByte { s with ram := memPut s.ram a b } a = .ok (ramGet (memPut s.ram a b) a) := memByte_ram hw hr
  rw [hstored, ramGet_memPut, if_pos rfl]

/-- A store changes no other address. -/
theorem memByte_stored_other {a a' : Nat} (h : a' ≠ a) :
    memByte { s with ram := memPut s.ram a b } a' = memByte s a' := by
  simp only [memByte, ramGet_memPut, if_neg h]
  rfl

/-- The buffers that a running command reads, by code and operands (20 R70 (a)). -/
theorem inBusyBuffer_iff {a : Nat} : inBusyBuffer s a = true ↔ s.busy = true ∧
    (s.cmd = 0x02 ∧ s.arg2.toNat ≤ a ∧ a < s.arg2.toNat + s.arg1.toNat ∨
      s.cmd = 0x05 ∧ s.arg0.toNat ≤ a ∧ a < s.arg0.toNat + s.arg1.toNat ∨
      s.cmd = 0x06 ∧ s.arg1.toNat ≤ a ∧ a < s.arg1.toNat + 4 * s.arg2.toNat) := by
  have hcode (c : Byte) : s.cmd = c ↔ s.cmd.toNat = c.toNat := BitVec.toNat_inj.symm
  cases hb : s.busy
  · simp [inBusyBuffer, busyBuffer, hb]
  · simp only [inBusyBuffer, busyBuffer, hb, hcode, if_true]
    split
    case h_1 h => split at h <;> simp_all
    case h_2 h => split at h <;> simp_all

end

/-- Settles O17: the four ways a store can go, and what a `MemRead` finds after the one that goes on. -/
theorem storedBytesAreRead : Obligations.StoredBytesAreRead := by
  unfold Obligations.StoredBytesAreRead
  intro s addr b rest hmoves
  have hstep : step s = hostStore addr b { s with moves := rest } := step_eq_hostMove hmoves
  rw [hstep]
  refine ⟨fun hw hr hb => ?_, fun hw => hostStore_window hw, fun hw hr => hostStore_unbacked hw hr,
    fun hw hr hb => hostStore_busyBuffer hw hr hb, inBusyBuffer_iff⟩
  exact ⟨_, hostStore_ram hw hr hb, memByte_stored (s := { s with moves := rest }) hw hr,
    fun a ha => memByte_stored_other (s := { s with moves := rest }) ha, rfl⟩

/-! ### Injected failures -/

/-- On the reference device an injected failure is the answer, and the flag and the device stay (20 R79). -/
theorem answerTxn_injected {s : State} {t : Txn} {k : FailKind} (hc : s.collab = .reference)
    (hf : s.forced.lookup s.txCount = some (.fail k)) : answerTxn t s = (.fail k, s.mapped, s.dev) := by
  simp [answerTxn, hc, forcedAnswer, hf]

/-- Settles O55: the failed transaction is recorded, and the bus is left as it was. -/
theorem injectedFailureSkipsDevice : Obligations.InjectedFailureSkipsDevice := by
  unfold Obligations.InjectedFailureSkipsDevice
  intro s t k hc hf
  refine ⟨setBus s.mapped s.dev (logTxn t s), ?_, rfl, rfl, rfl⟩
  rw [bus, issue, answerTxn_injected hc hf]
  cases k <;> rfl

end Sys2Proof.Machine

/-! PROOF. The reference device under `SECTOR_ERASE`, `WRITE` and `MMAP_ENABLE` (20 R72 to R78; 41 R150, R151; 43 R191,
R193): what each transaction does to the array, then each operation, then each loop. -/

namespace Sys2Proof.Machine

/-! ### What the array reads as -/

/-- The reads `g` of an array after the bytes `data` are ANDed in from `off` on (20 R75, R77). -/
def programmed (off : Nat) (data : List Byte) (g : Nat → Byte) (o : Nat) : Byte :=
  if off ≤ o then g o &&& (data[o - off]?).getD erasedByte else g o

/-- The reads `g` of an array after the sectors numbered `lo` to `hi` are erased (20 R74, 43 R193). -/
def erasedSectors (sector lo hi : Nat) (g : Nat → Byte) (o : Nat) : Byte :=
  if lo ≤ o / sector ∧ o / sector ≤ hi then erasedByte else g o

theorem and_erasedByte (b : Byte) : b &&& erasedByte = b := BitVec.and_allOnes

theorem erasedByte_and (b : Byte) : erasedByte &&& b = b := BitVec.allOnes_and

theorem programmed_of_getElem? {off i : Nat} {data : List Byte} {b : Byte} (h : data[i]? = some b) (g : Nat → Byte) :
    programmed off data g (off + i) = g (off + i) &&& b := by
  rw [programmed, if_pos (Nat.le_add_right off i), Nat.add_sub_cancel_left, h, Option.getD_some]

theorem programmed_outside {off o : Nat} {data : List Byte} (h : o < off ∨ off + data.length ≤ o) (g : Nat → Byte) :
    programmed off data g o = g o := by
  unfold programmed
  split
  · rw [List.getElem?_eq_none (by omega), Option.getD_none, and_erasedByte]
  · rfl

theorem programmed_nil (off : Nat) (g : Nat → Byte) : programmed off [] g = g :=
  funext fun o => programmed_outside (by simp only [List.length_nil]; omega) g

/-- A list of bytes can be programmed in two pieces. -/
theorem programmed_append (off : Nat) (xs ys : List Byte) (g : Nat → Byte) :
    programmed off (xs ++ ys) g = programmed (off + xs.length) ys (programmed off xs g) := by
  funext o
  by_cases ho : off + xs.length ≤ o
  · have hle : off ≤ o := by omega
    simp only [programmed, if_pos hle, if_pos ho, List.getElem?_append_right (Nat.le_sub_of_add_le' ho), Nat.sub_sub,
      List.getElem?_eq_none (Nat.le_sub_of_add_le' ho), Option.getD_none, and_erasedByte]
  · rw [programmed_outside (off := off + xs.length) (.inl (by omega)), programmed, programmed]
    split
    · rw [List.getElem?_append_left (by omega)]
    · rfl

theorem programmed_singleton (off : Nat) (b : Byte) (g : Nat → Byte) (o : Nat) :
    programmed off [b] g o = if o = off then g off &&& b else g o := by
  split
  case isTrue h => exact h ▸ programmed_of_getElem? (i := 0) rfl g
  case isFalse h => exact programmed_outside (by simp only [List.length_singleton]; omega) g

theorem erasedSectors_empty {sector lo hi : Nat} (h : hi < lo) (g : Nat → Byte) : erasedSectors sector lo hi g = g :=
  funext fun _ => if_neg (by omega)

/-- A run of sectors is erased by erasing the first, then the others. -/
theorem erasedSectors_first {sector lo hi : Nat} (h : lo ≤ hi) (g : Nat → Byte) :
    erasedSectors sector (lo + 1) hi (erasedSectors sector lo lo g) = erasedSectors sector lo hi g := by
  funext o
  rw [erasedSectors, erasedSectors, erasedSectors, ← ite_or]
  exact if_congr (by omega) rfl rfl

/-! ### The device's own operations -/

section
variable {p : DeviceProfile} {d : RefDevice}

@[simp] theorem welSet_setWel : welSet (setWel d) = true := by
  simp [welSet, setWel]

theorem setWel_wip : (setWel d).sr.getLsbD 0 = d.sr.getLsbD 0 := by
  simp [setWel]

theorem clearWel_wip : (clearWel d).sr.getLsbD 0 = d.sr.getLsbD 0 := by
  simp [clearWel]

@[simp] theorem setWel_flash : (setWel d).flash = d.flash := rfl

@[simp] theorem clearWel_flash : (clearWel d).flash = d.flash := rfl

/-- `flash[o] <- flash[o] AND b` as one programmed byte. -/
theorem flashGet_deviceAnd {m : Memory} {o : Nat} (ho : o < p.flashSizeBytes) (b : Byte) :
    flashGet (deviceAnd p m o b) = programmed o [b] (flashGet m) := by
  funext o'
  rw [deviceAnd, if_pos ho, flashGet_flashPut, programmed_singleton]

/-- Inside the page of `a` the address of byte `i` does not wrap. -/
theorem pageAddress_eq {page a i : Nat} (h : a % page + i < page) : a - a % page + (a + i) % page = a + i := by
  have hmod : (a + i) % page = a % page + i := by rw [← Nat.mod_add_mod, Nat.mod_eq_of_lt h]
  have hle : a % page ≤ a := Nat.mod_le a page
  omega

/-- A page program that stays inside its page and the chip ANDs its bytes in, in order (20 R75, R77). -/
theorem flashGet_deviceProgram {a i : Nat} {bs : List Byte} {m : Memory}
    (hpage : a % p.pageSizeBytes + i + bs.length ≤ p.pageSizeBytes) (hsize : a + i + bs.length ≤ p.flashSizeBytes) :
    flashGet (deviceProgram p a i bs m) = programmed (a + i) bs (flashGet m) := by
  induction bs generalizing i m with
  | nil => rw [programmed_nil]; rfl
  | cons b bs ih =>
    rw [List.length_cons] at hpage hsize
    rw [deviceProgram, ih (by omega) (by omega), pageAddress_eq (by omega), flashGet_deviceAnd (by omega)]
    exact (programmed_append (a + i) [b] bs (flashGet m)).symm

/-- The erase of the sector of `a` (20 R74). -/
theorem flashGet_sectorCleared {sector : Nat} (hs : 0 < sector) (m : Memory) (a : Nat) :
    flashGet (memClear m (a - a % sector) sector) = erasedSectors sector (a / sector) (a / sector) (flashGet m) := by
  funext o
  rw [flashGet_memClear, erasedSectors]
  refine if_congr ?_ rfl rfl
  rw [← Nat.le_antisymm_iff, eq_comm, Nat.div_eq_iff hs, Nat.div_mul_self_eq_mod_sub_self]
  omega

end

/-! ### The answers of the reference device in command mode -/

section
variable {s : State} {d : RefDevice}

/-- An offset inside the addressable part goes out unchanged (30 R97). -/
theorem addressField_toNat {o : Nat} (h : o < 2 ^ widthBits s.iface.addrw) : (addressField s o).toNat = o := by
  have hw : 2 ^ widthBits s.iface.addrw ≤ 2 ^ 32 := by cases s.iface.addrw <;> decide
  rw [addressField, Nat.mod_eq_of_lt h, BitVec.toNat_ofNat, Nat.mod_eq_of_lt (by omega)]

theorem eraseOpcode_variant : eraseOpcode s = s.profile.opEraseSector ∨ eraseOpcode s = s.profile.opEraseSector4B := by
  unfold eraseOpcode
  cases s.iface.addrw
  · exact .inl rfl
  · exact .inr rfl

theorem programOpcode_variant :
    programOpcode s = s.profile.opPageProgram ∨ programOpcode s = s.profile.opPageProgram4B := by
  unfold programOpcode
  cases s.iface.addrw
  · exact .inl rfl
  · exact .inr rfl

theorem deviceStep_writeEnable :
    deviceStep s.profile (plainCommand s s.profile.opWriteEnable .absent) false d = (.ok [], false, setWel d) := by
  simp [deviceStep, plainCommand, deviceCommand]

theorem deviceStep_welPoll (h : welSet d = true) : deviceStep s.profile (welPoll s) false d = (.ok [], false, d) := by
  have hpoll : d.sr &&& Config.welMask = Config.welMatch := by
    refine (BitVec.and_twoPow d.sr 1).trans ?_
    rw [show d.sr.getLsbD 1 = true from h]
    rfl
  simp [deviceStep, welPoll, statusPoll, hpoll]

theorem deviceStep_readyPoll (t : Word) (h : d.sr.getLsbD 0 = false) :
    deviceStep s.profile (readyPoll s t) false d = (.ok [], false, d) := by
  have hpoll : d.sr &&& Config.wipMask = Config.wipMatch := by
    refine (BitVec.and_twoPow d.sr 0).trans ?_
    rw [h]
    rfl
  simp [deviceStep, readyPoll, statusPoll, hpoll]

theorem deviceStep_eraseSector {o : Nat} (ha : opcodesApart s.profile) (hw : welSet d = true)
    (ho : o < s.profile.flashSizeBytes) (ho' : o < 2 ^ widthBits s.iface.addrw) :
    deviceStep s.profile (addressCommand s (eraseOpcode s) .absent o) false d =
      (.ok [], false, clearWel { d with
        flash := memClear d.flash (o - o % s.profile.sectorSizeBytes) s.profile.sectorSizeBytes }) := by
  obtain ⟨h1, h2, -⟩ := ha
  have hne : eraseOpcode s ≠ s.profile.opWriteEnable := by
    rcases eraseOpcode_variant (s := s) with h | h <;> rw [h] <;> assumption
  simp [deviceStep, addressCommand, deviceCommand, hne, eraseOpcode_variant, deviceEraseSector, hw, addressField_toNat ho',
    Nat.mod_eq_of_lt ho]

theorem deviceStep_pageProgram {o : Nat} (l : Lines) (ha : opcodesApart s.profile) (ho : o < s.profile.flashSizeBytes)
    (ho' : o < 2 ^ widthBits s.iface.addrw) :
    deviceStep s.profile (addressCommand s (programOpcode s) l o) false d =
      (.ok [], false, { d with pend := .program o }) := by
  obtain ⟨-, -, -, -, -, hprogram⟩ := ha
  obtain ⟨h1, h2, h3, h4⟩ := hprogram _ (programOpcode_variant (s := s))
  simp [deviceStep, addressCommand, deviceCommand, h1, h2, h3, h4, programOpcode_variant, addressField_toNat ho',
    Nat.mod_eq_of_lt ho]

theorem deviceStep_transmit {p : DeviceProfile} {a : Nat} {bs : List Byte} (hp : d.pend = .program a)
    (hw : welSet d = true) : deviceStep p (.transmit bs) false d =
      (.ok [], false, clearWel { d with flash := deviceProgram p a 0 bs d.flash, pend := .absent }) := by
  simp [deviceStep, deviceTransmit, hp, hw]

end

/-! ### A command on the reference device -/

/-- What a command on the reference device depends on, besides `chipState`. -/
def busView (s : State) :
    Collaborator × List (Nat × BusAnswer) × Bool × RefDevice × DeviceProfile × Platform × InterfaceState × Memory :=
  (s.collab, s.forced, s.mapped, s.dev, s.profile, s.platform, s.iface, s.ram)

/-- A command started in `s` on the reference device has reached `t`: the bus is in command mode, the array reads `g`,
the settings and RAM are those of `s`. -/
structure InCommandMode (s : State) (g : Nat → Byte) (t : State) : Prop where
  ready : ReferenceReady t
  unmapped : t.mapped = false
  flash : flashGet t.dev.flash = g
  settings : SameSettings s t
  ram : t.ram = s.ram

section
variable {s t u : State} {g : Nat → Byte}

theorem inCommandMode_congr (h : InCommandMode s g t) (hv : busView u = busView t) : InCommandMode s g u := by
  simp only [busView, Prod.mk.injEq] at hv
  obtain ⟨hcollab, hforced, hmapped, hdev, hprofile, hplatform, hiface, hram⟩ := hv
  refine ⟨?_, hmapped.trans h.unmapped, by rw [hdev, h.flash], sameSettings_trans h.settings ⟨hprofile, hplatform, hiface⟩,
    hram.trans h.ram⟩
  rw [ReferenceReady, hcollab, hforced, hdev, hprofile]
  exact h.ready

/-- A transaction that the device answers `Ok` goes on with the device it leaves. -/
theorem bus_reference {x : Txn} {rx : List Byte} {m : Bool} {d : RefDevice} (h : ReferenceReady s)
    (hd : deviceStep s.profile x s.mapped s.dev = (.ok rx, m, d)) : bus x s = .ok (setBus m d (logTxn x s)) := by
  obtain ⟨hc, hf, -⟩ := h
  simp [bus, issue, answerTxn, hc, forcedAnswer, hf, hd]

/-- A transaction in command mode that leaves the device ready. -/
theorem bus_inCommandMode {x : Txn} {rx : List Byte} {d : RefDevice} (h : InCommandMode s g t)
    (hd : deviceStep t.profile x false t.dev = (.ok rx, false, d)) (hready : d.sr.getLsbD 0 = false) :
    ∃ u, bus x t = .ok u ∧ u.dev = d ∧ InCommandMode s (flashGet d.flash) u := by
  obtain ⟨hc, hf, -, ha⟩ := h.ready
  have hanswer : deviceStep t.profile x t.mapped t.dev = (.ok rx, false, d) := by rw [h.unmapped, hd]
  exact ⟨_, bus_reference h.ready hanswer, rfl, ⟨hc, hf, hready, ha⟩, rfl, rfl,
    sameSettings_trans h.settings ⟨rfl, rfl, rfl⟩, h.ram⟩

theorem wip_of_inCommandMode (h : InCommandMode s g t) : t.dev.sr.getLsbD 0 = false := by
  obtain ⟨-, -, hwip, -⟩ := h.ready
  exact hwip

theorem opcodesApart_of_inCommandMode (h : InCommandMode s g t) : opcodesApart t.profile := by
  obtain ⟨-, -, -, hapart⟩ := h.ready
  exact hapart

/-- `WriteEnable()` sets the latch and leaves the array. -/
theorem doWriteEnable_reference (h : InCommandMode s g t) :
    ∃ u, doWriteEnable t = .ok u ∧ welSet u.dev = true ∧ InCommandMode s g u := by
  obtain ⟨u, hu, hdev, hmode⟩ := bus_inCommandMode h deviceStep_writeEnable
    (setWel_wip.trans (wip_of_inCommandMode h))
  have hwel : welSet u.dev = true := by simp [hdev]
  obtain ⟨v, hv, hdev', hmode'⟩ := bus_inCommandMode hmode (deviceStep_welPoll hwel) (wip_of_inCommandMode hmode)
  rw [hmode.flash, setWel_flash, h.flash] at hmode'
  refine ⟨v, ?_, by rw [hdev', hwel], hmode'⟩
  rw [doWriteEnable, hu, ok_bind, hv]

/-- A ready poll answers at once and changes nothing. -/
theorem doPollReady_reference (w : Word) (h : InCommandMode s g t) :
    ∃ u, doPollReady w t = .ok u ∧ InCommandMode s g u := by
  have hwip := wip_of_inCommandMode h
  obtain ⟨u, hu, -, hmode⟩ := bus_inCommandMode h (deviceStep_readyPoll w hwip) hwip
  rw [h.flash] at hmode
  exact ⟨u, hu, hmode⟩

/-- `DisableMemoryMappedMode()` starts command mode with the array as it was. -/
theorem doMapDisable_reference (h : ReferenceReady s) :
    ∃ u, doMapDisable s = .ok u ∧ u.chipState = .idle ∧ InCommandMode s (flashGet s.dev.flash) u := by
  refine ⟨setChip .idle (setBus false s.dev (logTxn .disableMemoryMap s)), ?_, rfl, h, rfl, rfl, ⟨rfl, rfl, rfl⟩, rfl⟩
  rw [doMapDisable, bus_reference h rfl]
  rfl

/-- A command that mapping admits is admitted (40 R120). -/
theorem admission_anyMode {c : ChipState} (h : c = .configured ∨ c = .idle ∨ c = .memoryMapped) :
    admission .anyMode c = .admitted := by
  rcases h with rfl | rfl | rfl <;> rfl

/-- `return 1` at the end of a command in command mode. -/
theorem complete_inCommandMode (h : InCommandMode s g t) (hc : t.chipState = .idle) :
    resultWord (complete 1 t) = 1 ∧ (complete 1 t).err = .noError ∧ (complete 1 t).chipState = .idle ∧
      InCommandMode s g (complete 1 t) :=
  ⟨resultWord_complete 1 t, rfl, hc, inCommandMode_congr h rfl⟩

end

theorem pageSize_pos {p : DeviceProfile} (h : p.legal = true) : 0 < p.pageSizeBytes := by
  simp only [DeviceProfile.legal, sizeLegal, Bool.and_eq_true, decide_eq_true_eq] at h
  omega

theorem sectorSize_pos {p : DeviceProfile} (h : p.legal = true) : 0 < p.sectorSizeBytes := by
  simp only [DeviceProfile.legal, sizeLegal, Bool.and_eq_true, decide_eq_true_eq] at h
  omega

/-! ### `SECTOR_ERASE` -/

section
variable {s t : State} {g : Nat → Byte}

/-- `EraseSector(a)` erases the sector of `a`. -/
theorem doEraseSector_reference {a : Nat} (h : InCommandMode s g t) (hs : 0 < s.profile.sectorSizeBytes)
    (ha : a < s.profile.flashSizeBytes) (ha' : a < 2 ^ widthBits s.iface.addrw) :
    ∃ u, doEraseSector a t = .ok u ∧ u.chipState = .idle ∧ InCommandMode s
      (erasedSectors s.profile.sectorSizeBytes (a / s.profile.sectorSizeBytes) (a / s.profile.sectorSizeBytes) g) u := by
  obtain ⟨u, hu, hwel, hu'⟩ := doWriteEnable_reference h
  have hmode : InCommandMode s g (setChip .erasing u) := inCommandMode_congr hu' rfl
  obtain ⟨v, hv, -, hv'⟩ := bus_inCommandMode hmode
    (deviceStep_eraseSector (opcodesApart_of_inCommandMode hmode) hwel (by rwa [hmode.settings.profile])
      (by rwa [hmode.settings.iface]))
    (clearWel_wip.trans (wip_of_inCommandMode hmode))
  rw [clearWel_flash, hmode.settings.profile, flashGet_sectorCleared hs, hmode.flash] at hv'
  obtain ⟨w, hw, hw'⟩ := doPollReady_reference v.profile.sectorEraseTimeoutMs hv'
  refine ⟨setChip .idle w, ?_, rfl, inCommandMode_congr hw' rfl⟩
  rw [doEraseSector, hu, ok_bind]
  dsimp only
  rw [hv, ok_bind, hw]
  rfl

/-- The sector loop from sector `k` on erases the sectors `k` to that of `stop`. -/
theorem eraseLoop_reference {start stop fuel k : Nat} (h : InCommandMode s g t) (hidle : t.chipState = .idle)
    (hs : 0 < s.profile.sectorSizeBytes) (hstop : stop < s.profile.flashSizeBytes)
    (hstop' : stop < 2 ^ widthBits s.iface.addrw) (hfuel : stop < k * s.profile.sectorSizeBytes + fuel) :
    ∃ u, eraseLoop start stop fuel (k * s.profile.sectorSizeBytes) t = .ok u ∧ u.chipState = .idle ∧ InCommandMode s
      (erasedSectors s.profile.sectorSizeBytes k (stop / s.profile.sectorSizeBytes) g) u := by
  induction fuel generalizing k g t with
  | zero =>
    have hlt : stop / s.profile.sectorSizeBytes < k := (Nat.div_lt_iff_lt_mul hs).mpr hfuel
    refine ⟨t, ?_, hidle, by rwa [erasedSectors_empty hlt]⟩
    rw [eraseLoop, if_neg (by omega)]
  | succ fuel ih =>
    by_cases hle : k * s.profile.sectorSizeBytes ≤ stop
    · have hmode : InCommandMode s g (setEraseRange ⟨start, stop, k * s.profile.sectorSizeBytes⟩ t) :=
        inCommandMode_congr h rfl
      obtain ⟨u, hu, hu', hmode'⟩ := doEraseSector_reference hmode hs (Nat.lt_of_le_of_lt hle hstop)
        (Nat.lt_of_le_of_lt hle hstop')
      have hnext : k * s.profile.sectorSizeBytes + s.profile.sectorSizeBytes = (k + 1) * s.profile.sectorSizeBytes :=
        (Nat.succ_mul _ _).symm
      obtain ⟨v, hv, hv', hend⟩ := ih (k := k + 1) hmode' hu' (by omega)
      rw [Nat.mul_div_cancel _ hs, erasedSectors_first ((Nat.le_div_iff_mul_le hs).mpr hle)] at hend
      refine ⟨v, ?_, hv', hend⟩
      rw [eraseLoop, if_pos hle, hu, ok_bind, hmode'.settings.profile, hnext, hv]
    · have hlt : stop / s.profile.sectorSizeBytes < k := (Nat.div_lt_iff_lt_mul hs).mpr (by omega)
      refine ⟨t, ?_, hidle, by rwa [erasedSectors_empty hlt]⟩
      rw [eraseLoop, if_neg hle]

/-- `SECTOR_ERASE` on the reference device: the array afterwards, in command mode. -/
theorem exec_sectorErase_reference {a e : Word} (h : ReferenceReady s) (hp : s.profile.legal = true)
    (hc : s.chipState = .configured ∨ s.chipState = .idle ∨ s.chipState = .memoryMapped)
    (ha : toOffset s a < s.profile.flashSizeBytes) (he : toOffset s e < s.profile.flashSizeBytes)
    (he' : toOffset s e < 2 ^ widthBits s.iface.addrw) :
    ∃ t, exec (.sectorErase a e) s = .next t ∧ resultWord t = 1 ∧ t.err = .noError ∧ t.chipState = .idle ∧
      InCommandMode s (erasedSectors s.profile.sectorSizeBytes (toOffset s a / s.profile.sectorSizeBytes)
        (toOffset s e / s.profile.sectorSizeBytes) (flashGet s.dev.flash)) t := by
  have hs := sectorSize_pos hp
  have hrange : sectorEraseInRange a e s = true := by simp [sectorEraseInRange, ha, he]
  obtain ⟨u, hu, hidle, hmode⟩ := doMapDisable_reference h
  have hstart : alignedStart u (toOffset s a) =
      toOffset s a / s.profile.sectorSizeBytes * s.profile.sectorSizeBytes := by
    rw [alignedStart, hmode.settings.profile, Nat.div_mul_self_eq_mod_sub_self]
  obtain ⟨v, hv, hidle', hmode'⟩ := eraseLoop_reference (start := toOffset s a) (stop := toOffset s e)
    (fuel := toOffset s e + 1 - alignedStart u (toOffset s a)) (k := toOffset s a / s.profile.sectorSizeBytes)
    (t := setEraseRange ⟨toOffset s a, toOffset s e, alignedStart u (toOffset s a)⟩ u)
    (inCommandMode_congr hmode rfl) hidle hs he he' (by omega)
  refine ⟨complete 1 v, ?_, complete_inCommandMode hmode' hidle'⟩
  rw [exec, execSectorErase, runCommand_admitted (admission_anyMode hc)]
  dsimp only
  rw [requireRange_ok hrange, ok_bind, hu, ok_bind]
  rw [← hstart] at hv
  rw [hv]
  rfl

end

/-- Settles O56: the loop erases the sectors of the range one by one. -/
theorem referenceSectorErase : Obligations.ReferenceSectorErase := by
  unfold Obligations.ReferenceSectorErase
  intro s a e h hp hc ha he he'
  obtain ⟨t, ht, hres, herr, hidle, hmode⟩ := exec_sectorErase_reference h hp hc ha he he'
  exact ⟨t, ht, hres, herr, hidle, fun o => congrFun hmode.flash o⟩

end Sys2Proof.Machine

/-! PROOF. `WRITE` on the reference device, and the round trip: erase, write, map, read back (20 R67, R75, R77, R78; 41
R150, R151). -/

namespace Sys2Proof.Machine

/-! ### The source buffer -/

section
variable {s t : State} {src : Nat} {data : List Byte}

/-- A buffer in RAM outside the window reads the same whatever the bus does (20 R71). -/
theorem ramHolds_congr (h : RamHolds s src data) (hram : t.ram = s.ram) (hset : SameSettings s t) :
    RamHolds t src data := by
  intro i b hb
  obtain ⟨hw, hread⟩ := h i b hb
  have hsize : t.profile.flashSizeBytes = s.profile.flashSizeBytes := by rw [hset.profile]
  refine ⟨?_, (memByte_congr_ram hram hset.platform hsize hw).trans hread⟩
  rw [← hw]
  simp only [inWindow, hset.platform, hset.profile]

theorem ramHolds_take (h : RamHolds s src data) (n : Nat) : RamHolds s src (data.take n) := by
  intro i b hb
  rw [List.getElem?_take] at hb
  split at hb
  case isTrue => exact h i b hb
  case isFalse => cases hb

theorem ramHolds_drop (h : RamHolds s src data) (n : Nat) : RamHolds s (src + n) (data.drop n) := by
  intro i b hb
  rw [List.getElem?_drop] at hb
  rw [Nat.add_assoc]
  exact h (n + i) b hb

/-- The fetch of a chunk answers the buffer's bytes and leaves the bus alone (41 R150). -/
theorem readBytes_ram (h : RamHolds t src data) :
    ∃ u, readBytes src data.length t = .ok (data, u) ∧ busView u = busView t := by
  induction data generalizing src t with
  | nil => exact ⟨t, rfl, rfl⟩
  | cons b bs ih =>
    obtain ⟨-, hread⟩ : _ ∧ memByte t src = .ok b := h 0 b rfl
    have hrest : RamHolds (logRead src 1 t) (src + 1) bs :=
      ramHolds_congr (ramHolds_drop h 1) rfl ⟨rfl, rfl, rfl⟩
    obtain ⟨u, hu, hview⟩ := ih hrest
    refine ⟨u, ?_, hview⟩
    rw [List.length_cons, readBytes, readByte, hread]
    dsimp only
    rw [ok_bind]
    dsimp only
    rw [hu]
    rfl

end

/-! ### Chunks -/

/-- A chunk stays in its page, and is not longer than the write. -/
theorem firstChunk_bounds {page cur rem : Nat} (hp : 0 < page) (hr : 0 < rem) :
    0 < firstChunk page cur rem ∧ firstChunk page cur rem ≤ rem ∧ cur % page + firstChunk page cur rem ≤ page := by
  have hmod : cur % page < page := Nat.mod_lt cur hp
  unfold firstChunk
  omega

/-- The next chunk length that the loop of `WRITE` takes is again the distance to the page end, or what is left. -/
theorem firstChunk_next {page cur rem : Nat} (hp : 0 < page) :
    min page (rem - firstChunk page cur rem) =
      firstChunk page (cur + firstChunk page cur rem) (rem - firstChunk page cur rem) := by
  have hmod : cur % page < page := Nat.mod_lt cur hp
  by_cases hlast : rem ≤ page - cur % page
  · simp [firstChunk, Nat.min_eq_left hlast]
  · have hn : firstChunk page cur rem = page - cur % page := Nat.min_eq_right (by omega)
    have hboundary : (cur + (page - cur % page)) % page = 0 := by
      rw [← Nat.mod_add_mod, Nat.add_sub_cancel' hmod.le, Nat.mod_self]
    rw [hn, firstChunk, hboundary, Nat.sub_zero, Nat.min_comm]

/-! ### `WRITE` -/

section
variable {s t : State} {g : Nat → Byte} {data : List Byte}

/-- `ProgramChunk` ANDs the chunk's bytes into its place. -/
theorem doProgramChunk_reference {off src : Nat} (h : InCommandMode s g t) (hram : RamHolds t src data)
    (hdata : 0 < data.length) (hpage : off % s.profile.pageSizeBytes + data.length ≤ s.profile.pageSizeBytes)
    (hsize : off + data.length ≤ s.profile.flashSizeBytes) (hwidth : off + data.length ≤ 2 ^ widthBits s.iface.addrw) :
    ∃ u, doProgramChunk off data.length src t = .ok u ∧ u.chipState = .idle ∧
      InCommandMode s (programmed off data g) u := by
  obtain ⟨t', ht', hview⟩ := readBytes_ram hram
  obtain ⟨u, hu, hwel, hu'⟩ := doWriteEnable_reference (inCommandMode_congr h hview)
  have hmode : InCommandMode s g (setChip .programming u) := inCommandMode_congr hu' rfl
  obtain ⟨v, hv, hdev, hv'⟩ := bus_inCommandMode hmode
    (deviceStep_pageProgram (currentLines (setChip .programming u)) (o := off) (opcodesApart_of_inCommandMode hmode)
      (by rw [hmode.settings.profile]; omega) (by rw [hmode.settings.iface]; omega))
    (wip_of_inCommandMode hmode)
  have hpend : v.dev.pend = .program off := by rw [hdev]
  have hwel' : welSet v.dev = true := by rw [hdev]; exact hwel
  obtain ⟨w, hw, -, hw'⟩ := bus_inCommandMode hv' (deviceStep_transmit (bs := data) hpend hwel')
    (clearWel_wip.trans (wip_of_inCommandMode hv'))
  rw [clearWel_flash, hv'.settings.profile, flashGet_deviceProgram (by omega) (by omega), hv'.flash, hmode.flash] at hw'
  obtain ⟨x, hx, hx'⟩ := doPollReady_reference w.profile.programTimeoutMs hw'
  refine ⟨setChip .idle x, ?_, rfl, inCommandMode_congr hx' rfl⟩
  rw [doProgramChunk, ht', ok_bind]
  dsimp only
  rw [hu, ok_bind, hv, ok_bind, hw, ok_bind, hx]
  rfl

/-- The chunk loop ANDs the bytes that are left into the rest of the range. -/
theorem writeLoop_reference {buffer fuel cur bo : Nat} (h : InCommandMode s g t) (hidle : t.chipState = .idle)
    (hp : 0 < s.profile.pageSizeBytes) (hfuel : data.length ≤ fuel) (hram : RamHolds s (buffer + bo) data)
    (hsize : cur + data.length ≤ s.profile.flashSizeBytes) (hwidth : cur + data.length ≤ 2 ^ widthBits s.iface.addrw) :
    ∃ u, writeLoop buffer fuel cur data.length bo (firstChunk s.profile.pageSizeBytes cur data.length) t = .ok u ∧
      u.chipState = .idle ∧ InCommandMode s (programmed cur data g) u := by
  induction fuel generalizing cur bo data g t with
  | zero =>
    obtain rfl : data = [] := List.eq_nil_of_length_eq_zero (by omega)
    exact ⟨t, rfl, hidle, by rwa [programmed_nil]⟩
  | succ fuel ih =>
    rcases Nat.eq_zero_or_pos data.length with hnil | hpos
    · obtain rfl : data = [] := List.eq_nil_of_length_eq_zero hnil
      exact ⟨t, rfl, hidle, by rwa [programmed_nil]⟩
    · obtain ⟨n, hn⟩ : ∃ n, n = firstChunk s.profile.pageSizeBytes cur data.length := ⟨_, rfl⟩
      obtain ⟨hn0, hle, hinPage⟩ := firstChunk_bounds (cur := cur) hp hpos
      rw [← hn] at hn0 hle hinPage
      have htake : (data.take n).length = n := by rw [List.length_take, Nat.min_eq_left hle]
      have hdrop : (data.drop n).length = data.length - n := List.length_drop
      have hmode : InCommandMode s g (setWriteCursor ⟨cur, data.length, bo⟩ t) := inCommandMode_congr h rfl
      obtain ⟨u, hu, hu', hmode'⟩ := doProgramChunk_reference (off := cur) hmode
        (ramHolds_congr (ramHolds_take hram n) hmode.ram hmode.settings) (by omega) (by omega) (by omega) (by omega)
      rw [htake] at hu
      have hrest : RamHolds s (buffer + (bo + n)) (data.drop n) := by
        rw [← Nat.add_assoc]
        exact ramHolds_drop hram n
      obtain ⟨v, hv, hv', hend⟩ := ih (cur := cur + n) hmode' hu' (by omega) hrest (by omega) (by omega)
      have hwhole := programmed_append cur (data.take n) (data.drop n) g
      rw [List.take_append_drop, htake] at hwhole
      refine ⟨v, ?_, hv', by rwa [hwhole]⟩
      have hnext : min s.profile.pageSizeBytes (data.length - n) =
          firstChunk s.profile.pageSizeBytes (cur + n) (data.length - n) := hn ▸ firstChunk_next hp
      rw [hdrop, ← hnext] at hv
      rw [← hn, writeLoop, if_neg (by omega), hu, ok_bind, hmode'.settings.profile, hv]

/-- `WRITE` on the reference device: the array afterwards, in command mode. -/
theorem exec_write_reference {address size buffer : Word} (h : ReferenceReady s) (hp : s.profile.legal = true)
    (hc : s.chipState = .configured ∨ s.chipState = .idle ∨ s.chipState = .memoryMapped)
    (hlen : data.length = size.toNat) (hram : RamHolds s buffer.toNat data) (hbuf : buffer.toNat + size.toNat ≤ 2 ^ 32)
    (hsize : toOffset s address + size.toNat ≤ s.profile.flashSizeBytes)
    (hwidth : toOffset s address + size.toNat ≤ 2 ^ widthBits s.iface.addrw) :
    ∃ t, exec (.write address size buffer) s = .next t ∧ resultWord t = 1 ∧ t.err = .noError ∧ t.chipState = .idle ∧
      InCommandMode s (programmed (toOffset s address) data (flashGet s.dev.flash)) t := by
  have hrange : writeInRange address size buffer s = true := by
    simp only [writeInRange, decide_eq_true hbuf, decide_eq_true hsize, Bool.or_true, Bool.and_true]
  obtain ⟨u, hu, hidle, hmode⟩ := doMapDisable_reference h
  rw [← hlen] at hsize hwidth
  obtain ⟨v, hv, hidle', hmode'⟩ := writeLoop_reference (buffer := buffer.toNat) (bo := 0)
    (t := setWriteCursor ⟨toOffset s address, size.toNat, 0⟩ u) (inCommandMode_congr hmode rfl) hidle (pageSize_pos hp)
    (Nat.le_of_eq hlen) hram hsize hwidth
  refine ⟨complete 1 v, ?_, complete_inCommandMode hmode' hidle'⟩
  rw [exec, execWrite, runCommand_admitted (admission_anyMode hc)]
  dsimp only
  rw [hlen] at hv
  rw [requireRange_ok hrange, ok_bind, hu, ok_bind, hmode.settings.profile, hv]
  rfl

end

/-- Settles O57: what the chunks program together, byte by byte. -/
theorem referenceWriteAnds : Obligations.ReferenceWriteAnds := by
  unfold Obligations.ReferenceWriteAnds
  intro s address size buffer data h hp hc hlen hram hbuf hsize hwidth
  obtain ⟨t, ht, hres, herr, hidle, hmode⟩ := exec_write_reference h hp hc hlen hram hbuf hsize hwidth
  refine ⟨t, ht, hres, herr, hidle, fun i b hb => ?_, fun o ho => ?_⟩ <;> rw [hmode.flash]
  · exact programmed_of_getElem? hb _
  · exact programmed_outside ho _

/-! ### The round trip -/

/-- `MMAP_ENABLE` after a command in command mode: the window shows the array (20 R78). -/
theorem exec_mmapEnable_reference {s t : State} {g : Nat → Byte} (h : InCommandMode s g t) (hidle : t.chipState = .idle) :
    ∃ u, exec .mmapEnable t = .next u ∧
      ∀ o < s.profile.flashSizeBytes, memByte u (u.platform.mmapBase.toNat + o) = .ok (g o) := by
  obtain ⟨hcollab, -⟩ := h.ready
  have hne : t.chipState ≠ .memoryMapped := by rw [hidle]; decide
  refine ⟨complete 1 (setChip .memoryMapped (setBus true t.dev (logTxn (mapCommand t) t))), ?_, fun o ho => ?_⟩
  · rw [exec, execMmapEnable, runCommand_admitted (admission_anyMode (.inr (.inl hidle))), doMapEnable, if_neg hne,
      bus_reference h.ready rfl]
    rfl
  · rw [← h.flash]
    rw [← h.settings.profile] at ho
    exact memByte_reference ho rfl hcollab

/-- Settles O58: an erased byte that is programmed once reads as what was programmed. -/
theorem referenceRoundTrip : Obligations.ReferenceRoundTrip := by
  unfold Obligations.ReferenceRoundTrip
  intro s a e address size buffer data h hp hc ha he hlen hram hbuf hsize hwidth hfrom hto
  obtain ⟨t1, h1, -, -, hidle1, hmode1⟩ := exec_sectorErase_reference h hp hc ha he (Nat.lt_of_lt_of_le he hwidth)
  have hset := hmode1.settings
  have hoff : toOffset t1 address = toOffset s address := by rw [toOffset, toOffset, hset.platform]
  obtain ⟨t2, h2, -, -, hidle2, hmode2⟩ := exec_write_reference hmode1.ready (by rwa [hset.profile]) (.inr (.inl hidle1))
    hlen (ramHolds_congr hram hmode1.ram hset) hbuf (by rwa [hoff, hset.profile])
    (by rw [hoff, hset.iface]; exact Nat.le_trans hsize hwidth)
  obtain ⟨t3, h3, hwindow⟩ := exec_mmapEnable_reference hmode2 hidle2
  refine ⟨t1, t2, t3, h1, h2, h3, fun i b hb => ?_⟩
  obtain ⟨hi, -⟩ := List.getElem?_eq_some_iff.mp hb
  have herased : flashGet t1.dev.flash (toOffset s address + i) = erasedByte := by
    rw [hmode1.flash]
    exact if_pos ⟨Nat.div_le_div_right (by omega), Nat.div_le_div_right (by omega)⟩
  rw [Nat.add_assoc, hwindow _ (by rw [hset.profile]; omega), hoff, programmed_of_getElem? hb, herased, erasedByte_and]

end Sys2Proof.Machine

/-! PROOF. Decoding and encoding of commands (30_encoding.md R90 to R93, R99): the decoder reads the code and the
operands of a command, and these are the bits that the command uses. -/

namespace Sys2Proof.Machine

/-! ### The code in `CMD` -/

theorem toNat_commandCode (w : CommandWords) : (commandCode w).toNat = w.cmd.toNat % 256 :=
  BitVec.toNat_setWidth 8 w.cmd

/-- What the mask of `usedBits` leaves of `CMD` is the code (30 R90). -/
theorem cmd_and_mask (w : CommandWords) : w.cmd &&& 0xFF = (commandCode w).setWidth 32 := by
  apply BitVec.eq_of_toNat_eq
  calc (w.cmd &&& 0xFF).toNat
      _ = w.cmd.toNat % 256 := Nat.and_two_pow_sub_one_eq_mod _ 8
      _ = ((commandCode w).setWidth 32).toNat := by
        rw [BitVec.toNat_setWidth_of_le (by decide), toNat_commandCode]

theorem setWidth_byte_inj {b c : Byte} : b.setWidth 32 = c.setWidth 32 ↔ b = c := by
  refine ⟨fun h => ?_, congrArg _⟩
  simpa using congrArg (BitVec.setWidth 8) h

theorem cmd_and_mask_eq_iff (w : CommandWords) (c : Byte) :
    w.cmd &&& 0xFF = c.setWidth 32 ↔ commandCode w = c := by
  rw [cmd_and_mask, setWidth_byte_inj]

/-! ### The nibbles of `misalignment` -/

section
variable (m : Word) (h t : BitVec 4)

@[simp] theorem headExtraOf_packMisalignment : headExtraOf (packMisalignment h t) = h :=
  BitVec.extractLsb'_append_eq_right

@[simp] theorem tailExtraOf_packMisalignment : tailExtraOf (packMisalignment h t) = t := by
  rw [tailExtraOf, packMisalignment]
  iterate 2 rw [BitVec.extractLsb'_append_eq_of_le (by decide)]
  exact BitVec.extractLsb'_append_eq_right

/-- The four fields of `misalignment`, of which 30 R93 uses the two nibbles. -/
theorem misalignment_fields :
    m.extractLsb' 20 12 ++ tailExtraOf m ++ m.extractLsb' 4 12 ++ headExtraOf m = m := by
  have upper : m.extractLsb' 20 12 ++ tailExtraOf m = m.extractLsb' 16 16 :=
    BitVec.extractLsb'_append_extractLsb'_eq_extractLsb' rfl
  have above : m.extractLsb' 16 16 ++ m.extractLsb' 4 12 = m.extractLsb' 4 28 :=
    BitVec.extractLsb'_append_extractLsb'_eq_extractLsb' rfl
  rw [upper, above]
  exact BitVec.extractLsb'_append_extractLsb' (w := 28) (len := 4)

/-- What the mask of `usedBits` leaves of `misalignment` are the two nibbles (30 R93). -/
theorem misalignment_and_mask : m &&& 0x000F000F = packMisalignment (headExtraOf m) (tailExtraOf m) := by
  have mask : (0x000F000F : Word) = (0 : BitVec 12) ++ (0xF : BitVec 4) ++ (0 : BitVec 12) ++ (0xF : BitVec 4) := rfl
  have keep (n : BitVec 4) : n &&& 0xF = n := BitVec.and_allOnes
  have drop (n : BitVec 12) : n &&& 0 = 0 := BitVec.and_zero
  calc m &&& 0x000F000F
      _ = (m.extractLsb' 20 12 ++ tailExtraOf m ++ m.extractLsb' 4 12 ++ headExtraOf m) &&&
            ((0 : BitVec 12) ++ (0xF : BitVec 4) ++ (0 : BitVec 12) ++ (0xF : BitVec 4)) := by
        rw [misalignment_fields, mask]
      _ = packMisalignment (headExtraOf m) (tailExtraOf m) := by
        rw [BitVec.and_append, BitVec.and_append, BitVec.and_append, keep, keep, drop, drop, packMisalignment]

theorem misalignment_and_mask_eq_iff :
    m &&& 0x000F000F = packMisalignment h t ↔ headExtraOf m = h ∧ tailExtraOf m = t := by
  rw [misalignment_and_mask]
  refine ⟨fun e => ⟨?_, ?_⟩, fun ⟨hh, ht⟩ => by rw [hh, ht]⟩
  · simpa using congrArg headExtraOf e
  · simpa using congrArg tailExtraOf e

end

/-! ### The words of a command -/

/-- The words carry the operands of the command where 30 R92 and R93 place them. -/
def CarriesOperands (w : CommandWords) : Instr → Prop
  | .write a n b => w.a0 = a ∧ w.a1 = n ∧ w.a2 = b
  | .sectorErase a e => w.a0 = a ∧ w.a1 = e
  | .massErase p => w.a0 = p
  | .checksum a n v => w.a0 = a ∧ w.a1 = n ∧ w.a2 = v
  | .verify f r n h t => w.a0 = f ∧ w.a1 = r ∧ w.a2 = n ∧ headExtraOf w.a3 = h ∧ tailExtraOf w.a3 = t
  | .pollReady t => w.a0 = t
  | .eraseSector a => w.a0 = a
  | .init | .reset | .writeEnable | .configure | .eraseChip | .mmapEnable | .mmapDisable => True

/-- The decoder reads the code and the operands, and nothing else. -/
theorem decode_eq_ok_iff (w : CommandWords) (i : Instr) :
    decode w = .ok i ↔ commandCode w = codeOf i ∧ CarriesOperands w i := by
  constructor
  · intro h
    unfold decode at h
    split at h
    case h_15 => cases h
    all_goals
      cases h
      rename_i hc
      exact ⟨BitVec.eq_of_toNat_eq hc, by simp [CarriesOperands]⟩
  · rintro ⟨hc, ho⟩
    cases i
    all_goals
      simp only [CarriesOperands] at ho
      simp only [decode, hc, codeOf, BitVec.reduceToNat, ho]

/-- The bits that a command uses are its code and its operands. -/
theorem usedBits_eq_encode_iff (w : CommandWords) (i : Instr) :
    usedBits i w = encode i ↔ commandCode w = codeOf i ∧ CarriesOperands w i := by
  cases i <;>
    simp only [usedBits, encode, CarriesOperands, CommandWords.mk.injEq, cmd_and_mask_eq_iff,
      misalignment_and_mask_eq_iff, and_true]

theorem commandCode_encode (i : Instr) : commandCode (encode i) = codeOf i := by
  cases i <;> rfl

theorem carriesOperands_encode (i : Instr) : CarriesOperands (encode i) i := by
  cases i <;> simp [CarriesOperands, encode]

/-- Settles O2: decoding to a command, and using the bits of its encoding, both say that the words carry its
code and its operands, as its encoding does. -/
theorem decodeEncodeAgree : Obligations.DecodeEncodeAgree := by
  unfold Obligations.DecodeEncodeAgree
  exact ⟨fun i => (decode_eq_ok_iff _ i).mpr ⟨commandCode_encode i, carriesOperands_encode i⟩,
    fun w i => (decode_eq_ok_iff w i).trans (usedBits_eq_encode_iff w i).symm⟩

/-! ### The illegal codes -/

/-- The decoder's last row is reached by the codes that no row of 30 R91 has (30 R99). -/
theorem decode_eq_illegal_iff (w : CommandWords) :
    decode w = .error (.illegalCommand (commandCode w)) ↔
      (commandCode w).toNat = 0 ∨ (0x07 ≤ (commandCode w).toNat ∧ (commandCode w).toNat ≤ 0x0F) ∨
        0x18 ≤ (commandCode w).toNat := by
  unfold decode
  split
  case h_15 =>
    refine iff_of_true rfl ?_
    simp only [imp_false] at *
    omega
  all_goals
    rename_i hc
    simp [hc]

/-- Settles O3: `CMD mod 256` is the number of the code. -/
theorem illegalCodesRejected : Obligations.IllegalCodesRejected := by
  unfold Obligations.IllegalCodesRejected
  intro w c
  have hc : (commandCode w).toNat = c := toNat_commandCode w
  have hcode : BitVec.ofNat 8 c = commandCode w := by rw [← hc, BitVec.ofNat_toNat, BitVec.setWidth_eq]
  rw [hcode, decode_eq_illegal_iff, hc]

/-- Settles O1: the decoder evaluates on words written out. -/
theorem sampleWordsDecode : Obligations.SampleWordsDecode := by
  unfold Obligations.SampleWordsDecode
  exact ⟨rfl, rfl, rfl, rfl⟩

end Sys2Proof.Machine

/-! PROOF. The records of the transactions (30_encoding.md R95 to R98; 40 R121). -/

namespace Sys2Proof.Machine

/-! ### The address field -/

/-- The field holds every bit that goes out: the address width is at most 32 (30 R97). -/
theorem toNat_addressField (s : State) (offset : Nat) :
    (addressField s offset).toNat = offset % 2 ^ widthBits s.iface.addrw := by
  have hw : widthBits s.iface.addrw ≤ 32 := by cases s.iface.addrw <;> decide
  rw [addressField, BitVec.toNat_ofNat]
  exact Nat.mod_eq_of_lt
    (Nat.lt_of_lt_of_le (Nat.mod_lt _ (Nat.two_pow_pos _)) (Nat.pow_le_pow_right (by decide) hw))

/-- Settles O7: `2 ^ widthBits` is one of the two moduli. -/
theorem addressFieldAssembly : Obligations.AddressFieldAssembly := by
  unfold Obligations.AddressFieldAssembly
  intro s op data offset
  refine ⟨_, rfl, ?_, rfl⟩
  rw [toNat_addressField]
  cases s.iface.addrw <;> rfl

/-! ### Polls -/

/-- Settles O5: the constants of the two polls are literals. -/
theorem pollRecords : Obligations.PollRecords := by
  unfold Obligations.PollRecords
  exact fun s t => ⟨rfl, rfl⟩

/-! ### The record of a command, as numbers -/

theorem addrModeCode_noAddress : addrModeCode noAddress = 0b000 := by decide

/-- A command without an address phase has address mode 0 (30 R95). -/
theorem sendCommandCodes_noAddress (op : Byte) (instrLines : Lines) (rate : Rate) (data : Lines) (address : Word)
    (dummy : Byte) :
    sendCommandCodes ⟨op, instrLines, rate, noAddress, data, address, dummy⟩ =
      (op, linesCode instrLines, rateCode rate, 0b000, linesCode data, address, dummy) := by
  rw [sendCommandCodes, addrModeCode_noAddress]

/-- The line codes of the reset rounds, in order (40 R121). -/
theorem map_linesCode_resetRounds (s : State) :
    (resetRounds s).map linesCode = if s.profile.multiLineReset then [1, 2, 3] else [1] := by
  rw [resetRounds, apply_ite (List.map linesCode)]
  rfl

/-- Settles O6: the codes of the current interface are named first, then each record is read off its definition. The
cases that remain are the choices by address width and by mode. -/
theorem recordsOfEveryStep : Obligations.RecordsOfEveryStep := by
  unfold Obligations.RecordsOfEveryStep
  intro s L R W
  have hL : linesCode (currentLines s) = L := by
    simp only [currentLines, L]
    cases s.iface.mode <;> rfl
  have hR : rateCode s.iface.rate = R := by
    simp only [R]
    cases s.iface.rate <;> rfl
  have hW : widthCode s.iface.addrw = W := by
    simp only [W]
    cases s.iface.addrw <;> rfl
  clear_value L R W
  subst hL hR hW
  refine ⟨⟨rfl, rfl, rfl, rfl, rfl⟩, fun op data => ⟨_, rfl, sendCommandCodes_noAddress ..⟩,
    fun op data offset => ⟨_, rfl, ?_⟩, fun op round => ⟨_, rfl, sendCommandCodes_noAddress ..⟩,
    map_linesCode_resetRounds s, ⟨_, rfl, rfl⟩, fun t => ⟨_, rfl, rfl⟩, ⟨_, rfl, ?_⟩, rfl, rfl⟩
  · rw [sendCommandCodes, addressField]
    cases s.iface.addrw <;> rfl
  · cases s.iface.mode <;> rfl

end Sys2Proof.Machine

/-! PROOF. The primitives with an `Ok` oracle: each is admitted, runs its operation of the Flash Command Protocol and
returns 1 (40 R120 to R128). -/

namespace Sys2Proof.Machine

/-! ### Admission and operand checks -/

theorem admission_recovery {c : ChipState} (h : c = .reset ∨ c = .configured ∨ c = .idle) :
    admission .recovery c = .admitted := by
  rcases h with rfl | rfl | rfl <;> rfl

theorem admission_commandMode {c : ChipState} (h : c = .configured ∨ c = .idle) :
    admission .commandMode c = .admitted := by
  rcases h with rfl | rfl <;> rfl

theorem eraseSectorInRange_iff (s : State) (addr : Word) :
    eraseSectorInRange addr s = true ↔ ¬ operandsOutOfRange s (.eraseSector addr) := by
  cases h : s.platform.enforceRange <;> simp [eraseSectorInRange, operandsOutOfRange, h]

theorem afterPollReady_eq_ite (c : ChipState) : afterPollReady c = if c = .reset then .reset else .idle := by
  cases c <;> rfl

/-! ### One operation, then `return` -/

section
variable {row : AdmissionRow} {m : State → Except Stop State} {f : State → State} {s u : State}

/-- An admitted command whose operation goes on returns. -/
theorem runCommand_returns (ha : admission row s.chipState = .admitted) (hm : m s = .ok u) :
    runCommand row (fun v => m v >>= fun w => .ok (f w)) s = .next (f u) := by
  rw [runCommand_admitted ha, hm]
  rfl

/-- Operands in range leave the command to its operation (60 R213, R217). -/
theorem runCommand_inRange {check : State → Bool} (ha : admission row s.chipState = .admitted)
    (hr : check s = true) :
    runCommand row (fun v => requireRange (check v) v >>= m) s = finish (m s) := by
  rw [runCommand_admitted ha, requireRange_ok hr, ok_bind]

end

/-! ### The statements -/

/-- Settles O34: `Reset()` goes on after its rounds. -/
theorem resetCompletes : Obligations.ResetCompletes := by
  unfold Obligations.ResetCompletes
  intro s hc h
  exact runCommand_returns (f := complete 1) (admission_recovery hc) (doReset_ok h)

/-- Settles O35: `WriteEnable()` goes on after its latch poll, and the host command writes `Idle`. -/
theorem writeEnableCompletes : Obligations.WriteEnableCompletes := by
  unfold Obligations.WriteEnableCompletes
  intro s hc h
  exact runCommand_returns (f := fun u => complete 1 (setChip .idle u)) (admission_commandMode hc) (doWriteEnable_ok h)

/-- Settles O36: the poll leaves `chipState`, which `afterPollReady` then reads. -/
theorem pollReadyCompletes : Obligations.PollReadyCompletes := by
  unfold Obligations.PollReadyCompletes
  intro s timeout hc h
  rw [← afterPollReady_eq_ite]
  exact runCommand_returns (f := fun u => complete 1 (setChip (afterPollReady u.chipState) u)) (admission_recovery hc)
    (doPollReady_ok h)

/-- Settles O37: `Configure()` goes on after its outputs, with the bytes that its two reads received. -/
theorem configureCompletes : Obligations.ConfigureCompletes := by
  unfold Obligations.ConfigureCompletes
  intro s hc h
  exact runCommand_returns (f := complete 1) (admission_recovery hc) (doConfigure_ok h)

/-- Settles O38: the offset passes the check, and `EraseSector` goes on after its poll. -/
theorem eraseSectorCompletes : Obligations.EraseSectorCompletes := by
  unfold Obligations.EraseSectorCompletes
  intro s addr hc h hr
  refine (runCommand_inRange (admission_commandMode hc) ((eraseSectorInRange_iff s addr).mpr hr)).trans ?_
  rw [doEraseSector_ok h]
  rfl

/-- Settles O39: `EraseChip` goes on after its poll. -/
theorem eraseChipCompletes : Obligations.EraseChipCompletes := by
  unfold Obligations.EraseChipCompletes
  intro s hc h
  exact runCommand_returns (f := complete 1) (admission_commandMode hc) (doEraseChip_ok h)

/-- Settles O40: mapped already, nothing is issued and no answer is asked for. -/
theorem mmapEnableCompletes : Obligations.MmapEnableCompletes := by
  unfold Obligations.MmapEnableCompletes
  intro s hc
  have hadmitted : s.chipState = .configured ∨ s.chipState = .idle ∨ s.chipState = .memoryMapped := by tauto
  have hgoes : s.chipState = .memoryMapped ∨ AnswersOk s := hc.imp_right And.right
  exact runCommand_returns (f := complete 1) (admission_anyMode hadmitted) (doMapEnable_ok hgoes)

/-- Settles O41: `DisableMemoryMap` is issued from each of the three states. -/
theorem mmapDisableCompletes : Obligations.MmapDisableCompletes := by
  unfold Obligations.MmapDisableCompletes
  intro s hc h
  exact runCommand_returns (f := complete 1) (admission_anyMode hc) (doMapDisable_ok h)

end Sys2Proof.Machine

/-! PROOF. How far a command comes: every transaction before the last is answered `Ok`, the first that is not ends the
command or leaves it waiting, and a command that returns does so in its own end state (40 R129, R130; 60 R211, R212,
R217; 70 R254). -/

namespace Sys2Proof.Machine

/-! ### The transactions so far -/

/-- What decides an oracle's answers, and what acceptance set: no operation writes it before the command ends. -/
def untilTheEnd (s : State) : Collaborator × List (Nat × BusAnswer) × Bool × Bool × ErrKind :=
  (s.collab, s.forced, s.busy, s.done, s.err)

/-- A command that began in `s` has reached `u`, and an oracle has answered `Ok` to every transaction in between. -/
structure OkSoFar (s u : State) : Prop where
  same : untilTheEnd u = untilTheEnd s
  count : s.txCount ≤ u.txCount
  answered : s.collab ≠ .reference → ∀ n, s.txCount ≤ n → n < u.txCount → ∃ rx, oracleAnswer s n = .ok rx

/-- It has come so far in `chipState` `c`. -/
def OkTo (s : State) (c : ChipState) (u : State) : Prop := OkSoFar s u ∧ u.chipState = c

/-- It has come so far and issued one more transaction, which an oracle answers `x`. -/
structure LastAnswer (s : State) (x : BusAnswer) (u : State) : Prop where
  same : untilTheEnd u = untilTheEnd s
  count : s.txCount < u.txCount
  answered : s.collab ≠ .reference → ∀ n, s.txCount ≤ n → n + 1 < u.txCount → ∃ rx, oracleAnswer s n = .ok rx
  last : s.collab ≠ .reference → oracleAnswer s (u.txCount - 1) = x

/-- It waits: for a transaction that is never answered, or in a loop that never ends (log 14, log 15). -/
def Waits (s u : State) : Prop := LastAnswer s .never u ∨ OkSoFar s u

/-- The pseudocode `m` of a command that began in `s` goes on with `P`, and stops for a transaction not answered `Ok`. -/
def Tries {α : Type} (s : State) (P : α → Prop) (m : Except Stop α) : Prop :=
  Ends P (fun k u => ∃ f, k = errOfFail f ∧ LastAnswer s (.fail f) u) (Waits s) m

section
variable {s u v : State} {c : ChipState}

theorem untilTheEnd_eq (h : untilTheEnd u = untilTheEnd s) : u.busy = s.busy ∧ u.done = s.done ∧ u.err = s.err := by
  simp only [untilTheEnd, Prod.mk.injEq] at h
  obtain ⟨-, -, hbusy, hdone, herr⟩ := h
  exact ⟨hbusy, hdone, herr⟩

theorem okSoFar_refl (s : State) : OkSoFar s s := ⟨rfl, le_rfl, fun _ _ h h' => by omega⟩

theorem okSoFar_of_same (h : OkSoFar s u) (hsame : untilTheEnd v = untilTheEnd u) (hcount : v.txCount = u.txCount) :
    OkSoFar s v :=
  ⟨hsame.trans h.same, hcount ▸ h.count, hcount ▸ h.answered⟩

theorem okTo_of_reads (h : OkTo s c u) (hr : Acts .read u v) : OkTo s c v := by
  rw [acts_read hr]
  exact ⟨okSoFar_of_same h.1 rfl rfl, h.2⟩

/-- The answer of an oracle does not depend on what the command has done. -/
theorem lastAnswer_issued {t : Txn} {x : BusAnswer} {m : Bool} {d : RefDevice} (h : OkSoFar s u)
    (ht : answerTxn t u = (x, m, d)) : LastAnswer s x (setBus m d (logTxn t u)) where
  same := h.same
  count := Nat.lt_succ_of_le h.count
  answered hc n hn hn' := h.answered hc n hn (Nat.lt_of_succ_lt_succ hn')
  last hc := by
    have hsame := h.same
    simp only [untilTheEnd, Prod.mk.injEq] at hsame
    obtain ⟨hcollab, hforced, -⟩ := hsame
    rw [answerTxn_oracle (by rwa [hcollab]), oracleAnswer_congr hcollab hforced, Prod.mk.injEq] at ht
    exact ht.1

theorem okSoFar_of_lastAnswer {rx : List Byte} (h : LastAnswer s (.ok rx) u) : OkSoFar s u where
  same := h.same
  count := Nat.le_of_lt h.count
  answered hc n hn hn' := by
    by_cases hlast : n + 1 < u.txCount
    · exact h.answered hc n hn hlast
    · exact ⟨rx, by rw [← h.last hc]; congr 1; omega⟩

theorem tries_bind {α β : Type} {M : α → Prop} {P : β → Prop} {m : Except Stop α} {f : α → Except Stop β}
    (hm : Tries s M m) (hf : ∀ a, M a → Tries s P (f a)) : Tries s P (m >>= f) :=
  ends_bind hm hf

/-! ### The operations -/

theorem bus_tries (t : Txn) (h : OkSoFar s u) : Tries s (OkTo s u.chipState) (bus t u) :=
  bus_ends (fun _ _ _ e => ⟨okSoFar_of_lastAnswer (lastAnswer_issued h e), rfl⟩)
    (fun f _ _ e => ⟨f, rfl, lastAnswer_issued h e⟩) fun _ _ e => .inl (lastAnswer_issued h e)

theorem bus_tries_okSoFar (t : Txn) (h : OkSoFar s u) : Tries s (OkSoFar s) (bus t u) :=
  ends_mono (bus_tries t h) (fun _ hv => hv.1) (fun _ _ hv => hv) fun _ hv => hv

theorem busReceiveByte_tries (h : OkSoFar s u) : Tries s (fun r => OkSoFar s r.2) (busReceiveByte u) :=
  busReceiveByte_ends (fun _ _ _ _ e => okSoFar_of_lastAnswer (lastAnswer_issued h e))
    (fun f _ _ e => ⟨f, rfl, lastAnswer_issued h e⟩) fun _ _ e => .inl (lastAnswer_issued h e)

theorem doWriteEnable_tries (h : OkSoFar s u) : Tries s (OkSoFar s) (doWriteEnable u) :=
  tries_bind (bus_tries _ h) fun _ h1 => bus_tries_okSoFar _ h1.1

theorem readRegister_tries (op : Byte) (h : OkSoFar s u) : Tries s (fun r => OkSoFar s r.2) (readRegister op u) :=
  tries_bind (bus_tries _ h) fun _ h1 => busReceiveByte_tries h1.1

theorem writeRegister_tries (op : Byte) (bytes : List Byte) (h : OkSoFar s u) :
    Tries s (OkSoFar s) (writeRegister op bytes u) :=
  tries_bind (bus_tries _ h) fun _ h1 => bus_tries_okSoFar _ h1.1

theorem sendResetRounds_tries (rs : List Lines) (h : OkSoFar s u) : Tries s (OkSoFar s) (sendResetRounds rs u) := by
  induction rs generalizing u with
  | nil => exact h
  | cons r rs ih => exact tries_bind (bus_tries _ h) fun _ h1 => tries_bind (bus_tries _ h1.1) fun _ h2 => ih h2.1

theorem doReset_tries (h : OkSoFar s u) : Tries s (OkTo s .reset) (doReset u) :=
  tries_bind (sendResetRounds_tries _ h) fun _ h1 => ⟨okSoFar_of_same h1 rfl rfl, rfl⟩

theorem enterFourByte_tries (h : OkSoFar s u) : Tries s (OkSoFar s) (enterFourByte u) := by
  unfold enterFourByte
  split
  · exact tries_bind (bus_tries _ h) fun _ h1 => okSoFar_of_same h1.1 rfl rfl
  · exact h

theorem enterMultiLine_tries (h : OkSoFar s u) : Tries s (OkSoFar s) (enterMultiLine u) := by
  unfold enterMultiLine
  split
  · exact tries_bind (enterFourByte_tries h) fun _ h1 => tries_bind (bus_tries _ h1) fun _ h2 =>
      okSoFar_of_same h2.1 rfl rfl
  · exact h

theorem disableWrap_tries (h : OkSoFar s u) : Tries s (OkSoFar s) (disableWrap u) := by
  unfold disableWrap
  split
  · exact writeRegister_tries _ _ h
  · exact h

theorem doConfigure_tries (h : OkSoFar s u) : Tries s (OkTo s .configured) (doConfigure u) :=
  tries_bind (readRegister_tries _ h) fun _ h1 => tries_bind (readRegister_tries _ h1) fun _ h2 =>
    tries_bind (doWriteEnable_tries h2) fun _ h3 => tries_bind (writeRegister_tries _ _ h3) fun _ h4 =>
      tries_bind (bus_tries _ h4) fun _ h5 => tries_bind (enterMultiLine_tries h5.1) fun _ h6 =>
        tries_bind (disableWrap_tries h6) fun _ h7 => ⟨okSoFar_of_same h7 rfl rfl, rfl⟩

theorem doEraseSector_tries (addr : Nat) (h : OkSoFar s u) : Tries s (OkTo s .idle) (doEraseSector addr u) :=
  tries_bind (doWriteEnable_tries h) fun _ h1 => tries_bind (bus_tries _ (okSoFar_of_same h1 rfl rfl)) fun _ h2 =>
    tries_bind (bus_tries _ h2.1) fun _ h3 => ⟨okSoFar_of_same h3.1 rfl rfl, rfl⟩

theorem doEraseChip_tries (h : OkSoFar s u) : Tries s (OkTo s .idle) (doEraseChip u) :=
  tries_bind (doWriteEnable_tries h) fun _ h1 => tries_bind (bus_tries _ (okSoFar_of_same h1 rfl rfl)) fun _ h2 =>
    tries_bind (bus_tries _ h2.1) fun _ h3 => ⟨okSoFar_of_same h3.1 rfl rfl, rfl⟩

theorem doProgramChunk_tries (off n src : Nat) (h : OkSoFar s u) : Tries s (OkTo s .idle) (doProgramChunk off n src u) :=
  tries_bind (readBytes_reads n src .refl) fun _ hr =>
    tries_bind (doWriteEnable_tries (okTo_of_reads ⟨h, rfl⟩ hr).1) fun _ h1 =>
      tries_bind (bus_tries _ (okSoFar_of_same h1 rfl rfl)) fun _ h2 => tries_bind (bus_tries _ h2.1) fun _ h3 =>
        tries_bind (bus_tries _ h3.1) fun _ h4 => ⟨okSoFar_of_same h4.1 rfl rfl, rfl⟩

theorem doMapDisable_tries (h : OkSoFar s u) : Tries s (OkTo s .idle) (doMapDisable u) :=
  tries_bind (bus_tries _ h) fun _ h1 => ⟨okSoFar_of_same h1.1 rfl rfl, rfl⟩

theorem doMapEnable_tries (h : OkSoFar s u) : Tries s (OkTo s .memoryMapped) (doMapEnable u) := by
  unfold doMapEnable
  split
  · exact ⟨h, ‹_›⟩
  · exact tries_bind (bus_tries _ h) fun _ h1 => ⟨okSoFar_of_same h1.1 rfl rfl, rfl⟩

theorem eraseLoop_tries (start stop fuel a : Nat) (h : OkTo s .idle u) :
    Tries s (OkTo s .idle) (eraseLoop start stop fuel a u) := by
  induction fuel generalizing a u with
  | zero =>
    unfold eraseLoop
    split
    · exact .inr h.1
    · exact h
  | succ fuel ih =>
    unfold eraseLoop
    split
    · exact tries_bind (doEraseSector_tries a (okSoFar_of_same h.1 rfl rfl)) fun _ h1 => ih _ h1
    · exact h

theorem writeLoop_tries (buffer fuel cur rem bo n : Nat) (h : OkTo s .idle u) :
    Tries s (OkTo s .idle) (writeLoop buffer fuel cur rem bo n u) := by
  induction fuel generalizing cur rem bo n u with
  | zero =>
    unfold writeLoop
    split
    · exact h
    · exact .inr h.1
  | succ fuel ih =>
    unfold writeLoop
    split
    · exact h
    · exact tries_bind (doProgramChunk_tries _ _ _ (okSoFar_of_same h.1 rfl rfl)) fun _ h1 => ih _ _ _ _ h1

end

/-! ### Every command -/

/-- Everything a command of row `row` that began in `s` can end in, when `c` is its own end state: it waits, a
transaction failed, it was rejected before it did anything, or it was admitted and returned. -/
inductive EndsIn (row : AdmissionRow) (c : ChipState) (s : State) : State → Prop
  | waits {u : State} (h : Waits s u) : EndsIn row c s u
  | fails {f : FailKind} {u : State} (h : LastAnswer s (.fail f) u) : EndsIn row c s (raise (errOfFail f) u)
  | rejected {k : ErrKind} (hk : isBusKind k = false) (herr : k ≠ .noError) : EndsIn row c s (raise k s)
  | returns {u : State} (v : DWord) (ha : admission row s.chipState = .admitted) (h : OkTo s c u) :
      EndsIn row c s (complete v u)

/-- The pseudocode of a whole command. -/
def StopsIn (row : AdmissionRow) (c : ChipState) (s : State) (m : Except Stop State) : Prop :=
  Ends (EndsIn row c s) (fun k u => EndsIn row c s (raise k u)) (EndsIn row c s) m

section
variable {row : AdmissionRow} {c : ChipState} {s t : State}

theorem stopsIn_bind {α : Type} {M : α → Prop} {m : Except Stop α} {f : α → Except Stop State}
    (hm : Tries s M m) (hf : ∀ a, M a → StopsIn row c s (f a)) : StopsIn row c s (m >>= f) :=
  ends_bind (ends_mono hm (fun _ h => h) (fun _ _ ⟨_, hk, h⟩ => hk ▸ .fails h) fun _ h => .waits h) hf

/-- An operand check comes before every action (60 R217). -/
theorem stopsIn_requireRange {b : Bool} {f : State → Except Stop State} (hf : StopsIn row c s (f s)) :
    StopsIn row c s (requireRange b s >>= f) :=
  ends_bind (M := (· = s)) (requireRange_ends (fun _ => rfl) fun _ => .rejected rfl (by decide)) fun _ h => h ▸ hf

/-- Pseudocode that reaches the end state, and then returns 1. -/
theorem stopsIn_returns_one {m : Except Stop State} (ha : admission row s.chipState = .admitted)
    (hm : Tries s (OkTo s c) m) : StopsIn row c s (m >>= fun v => .ok (complete 1 v)) :=
  stopsIn_bind hm fun _ h => .returns 1 ha h

theorem admission_rejects_with_error {k : ErrKind} (h : admission row c = .rejected k) : k ≠ .noError := by
  cases row <;> cases c <;> cases h <;> decide

theorem runCommand_endsIn {body : State → Except Stop State} (h : runCommand row body s = .next t)
    (hbody : admission row s.chipState = .admitted → StopsIn row c s (body s)) : EndsIn row c s t :=
  runCommand_ends h
    (fun _ hk => .rejected (admission_rejects_precisely hk) (admission_rejects_with_error hk)) hbody

theorem execInit_endsIn (h : execInit s = .next t) : EndsIn .initialise .memoryMapped s t := by
  unfold execInit at h
  split at h
  case isFalse => cases h
  case isTrue =>
    exact runCommand_endsIn h fun ha =>
      stopsIn_bind (bus_tries .busInit (okSoFar_of_same (okSoFar_refl s) rfl rfl)) fun _ h1 =>
        stopsIn_bind (doReset_tries h1.1) fun _ h2 => stopsIn_bind (bus_tries _ h2.1) fun _ h3 =>
          stopsIn_bind (doConfigure_tries h3.1) fun _ h4 => stopsIn_returns_one ha (doMapEnable_tries h4.1)

theorem execWrite_endsIn {address size buffer : Word} (h : execWrite address size buffer s = .next t) :
    EndsIn .anyMode .idle s t :=
  runCommand_endsIn h fun ha => stopsIn_requireRange <| stopsIn_bind (doMapDisable_tries (okSoFar_refl s)) fun _ h1 =>
    stopsIn_returns_one ha (writeLoop_tries _ _ _ _ _ _ ⟨okSoFar_of_same h1.1 rfl rfl, h1.2⟩)

theorem execSectorErase_endsIn {a e : Word} (h : execSectorErase a e s = .next t) : EndsIn .anyMode .idle s t :=
  runCommand_endsIn h fun ha => stopsIn_requireRange <| stopsIn_bind (doMapDisable_tries (okSoFar_refl s)) fun _ h1 =>
    stopsIn_returns_one ha (eraseLoop_tries _ _ _ _ ⟨okSoFar_of_same h1.1 rfl rfl, h1.2⟩)

theorem execMassErase_endsIn {p : Word} (h : execMassErase p s = .next t) : EndsIn .anyMode .idle s t :=
  runCommand_endsIn h fun ha => stopsIn_bind (doMapDisable_tries (okSoFar_refl s)) fun _ h1 =>
    stopsIn_returns_one ha (doEraseChip_tries h1.1)

theorem execChecksum_endsIn {start size seed : Word} (h : execChecksum start size seed s = .next t) :
    EndsIn .anyMode .memoryMapped s t :=
  runCommand_endsIn h fun ha => stopsIn_requireRange <| stopsIn_bind (doMapEnable_tries (okSoFar_refl s)) fun _ h1 =>
    stopsIn_bind (doChecksum_reads _ _ _ .refl) fun _ hr => .returns _ ha (okTo_of_reads h1 hr.1)

theorem execVerify_endsIn {flash ram n : Word} {head tail : BitVec 4}
    (h : execVerify flash ram n head tail s = .next t) : EndsIn .anyMode .memoryMapped s t :=
  runCommand_endsIn h fun ha => stopsIn_requireRange <| stopsIn_bind (doMapEnable_tries (okSoFar_refl s)) fun _ h1 =>
    stopsIn_bind (doChecksum_reads _ _ _ .refl) fun _ hr => stopsIn_bind (compareLoop_reads _ _ _ hr.1) fun r hc => by
      obtain ⟨hok, hchip⟩ := okTo_of_reads h1 hc
      rcases r with ⟨_ | a, v⟩
      · exact .returns _ ha ⟨hok, hchip⟩
      · exact .returns _ ha ⟨okSoFar_of_same hok rfl rfl, hchip⟩

theorem execReset_endsIn (h : execReset s = .next t) : EndsIn .recovery .reset s t :=
  runCommand_endsIn h fun ha => stopsIn_returns_one ha (doReset_tries (okSoFar_refl s))

theorem execWriteEnable_endsIn (h : execWriteEnable s = .next t) : EndsIn .commandMode .idle s t :=
  runCommand_endsIn h fun ha => stopsIn_bind (doWriteEnable_tries (okSoFar_refl s)) fun _ h1 =>
    .returns 1 ha ⟨okSoFar_of_same h1 rfl rfl, rfl⟩

/-- The poll leaves `chipState`, which `afterPollReady` then reads. -/
theorem execPollReady_endsIn {w : Word} (h : execPollReady w s = .next t) :
    EndsIn .recovery (afterPollReady s.chipState) s t :=
  runCommand_endsIn h fun ha => stopsIn_bind (bus_tries _ (okSoFar_refl s)) fun _ h1 =>
    .returns 1 ha ⟨okSoFar_of_same h1.1 rfl rfl, congrArg afterPollReady h1.2⟩

theorem execConfigure_endsIn (h : execConfigure s = .next t) : EndsIn .recovery .configured s t :=
  runCommand_endsIn h fun ha => stopsIn_returns_one ha (doConfigure_tries (okSoFar_refl s))

theorem execEraseSector_endsIn {addr : Word} (h : execEraseSector addr s = .next t) : EndsIn .commandMode .idle s t :=
  runCommand_endsIn h fun ha => stopsIn_requireRange <|
    stopsIn_returns_one ha (doEraseSector_tries _ (okSoFar_refl s))

theorem execEraseChip_endsIn (h : execEraseChip s = .next t) : EndsIn .commandMode .idle s t :=
  runCommand_endsIn h fun ha => stopsIn_returns_one ha (doEraseChip_tries (okSoFar_refl s))

theorem execMmapEnable_endsIn (h : execMmapEnable s = .next t) : EndsIn .anyMode .memoryMapped s t :=
  runCommand_endsIn h fun ha => stopsIn_returns_one ha (doMapEnable_tries (okSoFar_refl s))

theorem execMmapDisable_endsIn (h : execMmapDisable s = .next t) : EndsIn .anyMode .idle s t :=
  runCommand_endsIn h fun ha => stopsIn_returns_one ha (doMapDisable_tries (okSoFar_refl s))

/-- Where every command can end: by its row of the admission table and its row of 40 R129. -/
theorem exec_endsIn {i : Instr} (h : exec i s = .next t) : EndsIn (rowOf i) (endState i s.chipState) s t := by
  cases i with
  | init => exact execInit_endsIn h
  | write => exact execWrite_endsIn h
  | sectorErase => exact execSectorErase_endsIn h
  | massErase p => exact execMassErase_endsIn (p := p) h
  | checksum => exact execChecksum_endsIn h
  | verify => exact execVerify_endsIn h
  | reset => exact execReset_endsIn h
  | writeEnable => exact execWriteEnable_endsIn h
  | pollReady =>
    have hend := execPollReady_endsIn h
    rwa [afterPollReady_eq_ite] at hend
  | configure => exact execConfigure_endsIn h
  | eraseSector => exact execEraseSector_endsIn h
  | eraseChip => exact execEraseChip_endsIn h
  | mmapEnable => exact execMmapEnable_endsIn h
  | mmapDisable => exact execMmapDisable_endsIn h

/-- What an oracle answered to a command that has come to `t`: `Ok` throughout, or once, at last, something else. -/
theorem endsIn_answers (h : EndsIn row c s t) (hc : s.collab ≠ .reference) :
    (∀ n, s.txCount ≤ n → n < t.txCount → ∃ rx, oracleAnswer s n = .ok rx) ∨
      (∃ f u, LastAnswer s (.fail f) u ∧ t = raise (errOfFail f) u) ∨ LastAnswer s .never t := by
  cases h with
  | waits h => exact h.elim (fun h => .inr (.inr h)) fun h => .inl (h.answered hc)
  | fails h => exact .inr (.inl ⟨_, _, h, rfl⟩)
  | rejected => exact .inl ((okSoFar_refl s).answered hc)
  | returns v ha h => exact .inl (h.1.answered hc)

end

/-! ### The statements -/

theorem errOfFail_eq (f : FailKind) : errOfFail f = match f with | .busError => .busError | .timeout => .timeout := by
  cases f <;> rfl

/-- The table of 40 R120 and the lists of 60 R214 and R215 agree. -/
theorem admittedIn_eq_admission (i : Instr) (c : ChipState) :
    admittedIn i c = decide (admission (rowOf i) c = .admitted) := by
  cases c <;> cases i <;> rfl

/-- Settles O29: a transaction not answered `Ok` can only be the last, and its answer says how the command ended. -/
theorem firstFailureEndsCommand : Obligations.FirstFailureEndsCommand := by
  unfold Obligations.FirstFailureEndsCommand
  intro i s t hc hbusy hdone herr h
  rcases endsIn_answers (exec_endsIn h) hc with hall | ⟨f, u, hlast, rfl⟩ | hlast
  · have hok (hlt : s.txCount < t.txCount) := hall (t.txCount - 1) (by omega) (by omega)
    refine ⟨fun n hn hn' => hall n hn (by omega), fun k hlt hk => ?_, fun hlt hk => ?_, fun _ _ => hall⟩
    · obtain ⟨rx, hrx⟩ := hok hlt
      cases hk.symm.trans hrx
    · obtain ⟨rx, hrx⟩ := hok hlt
      cases hk.symm.trans hrx
  · have hf := errOfFail_isBusKind f
    refine ⟨hlast.answered hc, fun k _ hk => ?_, fun _ hk => ?_, fun _ hk => ?_⟩
    · cases hk.symm.trans (hlast.last hc)
      exact ⟨errOfFail_eq f, rfl, rfl, resultWord_raise _ u, if_pos hf⟩
    · cases hk.symm.trans (hlast.last hc)
    · cases hf.symm.trans hk
  · obtain ⟨hbusy', hdone', herr'⟩ := untilTheEnd_eq hlast.same
    refine ⟨hlast.answered hc, fun k _ hk => ?_, fun _ _ => ?_, fun hd => ?_⟩
    · cases hk.symm.trans (hlast.last hc)
    · exact ⟨hbusy'.trans hbusy, hdone'.trans hdone, herr'.trans herr⟩
    · cases hd.symm.trans (hdone'.trans hdone)

/-- Settles O30: each way to end gives one clause, and a command that waits has not set `DONE`. -/
theorem transitionsAtCommandEnd : Obligations.TransitionsAtCommandEnd := by
  unfold Obligations.TransitionsAtCommandEnd
  intro i s t hdone h ht
  rw [← isBusKind_iff]
  cases exec_endsIn h with
  | waits hw =>
    obtain ⟨-, hdone', -⟩ := untilTheEnd_eq (hw.elim (·.same) (·.same))
    cases ht.symm.trans (hdone'.trans hdone)
  | @fails f u hf =>
    have hk := errOfFail_isBusKind f
    refine ⟨rfl, fun he => ?_, fun _ => if_pos hk, fun _ he => ?_⟩
    · rw [← raise_err u (errOfFail f), he] at hk; cases hk
    · rw [raise_err, hk] at he; cases he
  | rejected hk hne =>
    refine ⟨rfl, fun he => absurd he hne, fun he => ?_, fun _ _ => ?_⟩
    · rw [raise_err, hk] at he; cases he
    · rw [raise_chipState, hk]; rfl
  | returns v ha hu =>
    exact ⟨rfl, fun _ => ⟨by rw [admittedIn_eq_admission, ha]; rfl, hu.2⟩, nofun, fun he => absurd rfl he⟩

end Sys2Proof.Machine

/-! PROOF. Where an erase command and `WRITE` wait (10 R28, R29; 40 R129; 70 R254): a list of transactions of which one is
never answered stops right after it. -/

namespace Sys2Proof.Machine

/-! ### Settings -/

section
variable {s u : State}

/-- Steps that agree wherever the one before them goes on. -/
theorem bind_congr_ok {α β : Type} {m : Except Stop α} {f g : α → Except Stop β} (h : ∀ a, m = .ok a → f a = g a) :
    m >>= f = m >>= g := by
  cases m with
  | error => rfl
  | ok a => exact h a rfl

/-- A transaction that goes on keeps what the next ones are built from. -/
theorem bus_settings {t : Txn} (h : bus t s = .ok u) : SameSettings s u := by
  rcases bus_cases t s with ⟨_, m, d, -, e⟩ | ⟨_, m, d, -, e⟩ | ⟨m, d, -, e⟩ <;> rw [e] at h <;> cases h
  exact ⟨rfl, rfl, rfl⟩

theorem doWriteEnable_settings (h : doWriteEnable s = .ok u) : SameSettings s u := by
  rw [doWriteEnable] at h
  cases hbus : bus (plainCommand s s.profile.opWriteEnable .absent) s with
  | error => rw [hbus] at h; cases h
  | ok v =>
    rw [hbus, ok_bind] at h
    exact sameSettings_trans (bus_settings hbus) (bus_settings h)

theorem sameSettings_setChip {c : ChipState} (h : SameSettings s u) : SameSettings s (setChip c u) :=
  ⟨h.profile, h.platform, h.iface⟩

end

/-! ### A list of transactions -/

/-- Transactions issued in order; the first that is not answered `Ok` is the last (40 R130). -/
def issueAll : List Txn → State → Except Stop State
  | [], s => .ok s
  | t :: ts, s => bus t s >>= issueAll ts

/-- `WriteEnable()` (40 R122). -/
def writeEnableTxns (s : State) : List Txn := [plainCommand s s.profile.opWriteEnable .absent, welPoll s]

section
variable {s : State} {c : ChipState} {k r : Nat} {ts : List Txn}

theorem issueAll_singleton (t : Txn) (s : State) : issueAll [t] s = bus t s := bind_pure _

theorem issueAll_answered (h : NeverAnswers s (ts.length + k)) :
    issueAll ts s = .ok (afterEvents (ts.map .bus) s) ∧ NeverAnswers (afterEvents (ts.map .bus) s) k := by
  induction ts generalizing s with
  | nil => exact ⟨rfl, by rwa [List.length_nil, Nat.zero_add] at h⟩
  | cons t ts ih =>
    rw [List.length_cons, Nat.succ_add] at h
    obtain ⟨hbus, hnext⟩ := bus_answered (t := t) h
    rw [issueAll, hbus, ok_bind]
    exact ih hnext

theorem issueAll_waits (h : NeverAnswers s r) (hr : r < ts.length) (hmap : ∀ t ∈ ts, mapTarget t = none) :
    issueAll ts s = .error (.unanswered (afterEvents ((ts.map Event.bus).take (r + 1)) s)) := by
  induction ts generalizing s r with
  | nil => cases hr
  | cons t ts ih =>
    rw [List.forall_mem_cons] at hmap
    obtain ⟨ht, hts⟩ := hmap
    cases r with
    | zero => rw [issueAll, bus_unanswered h ht]; rfl
    | succ r =>
      obtain ⟨hbus, hnext⟩ := bus_answered (t := t) h
      rw [issueAll, hbus, ok_bind, ih hnext (Nat.lt_of_succ_lt_succ hr) hts]
      rfl

theorem doWriteEnable_eq_issueAll (s : State) : doWriteEnable s = issueAll (writeEnableTxns s) s :=
  bind_congr_ok fun _ hv => by rw [issueAll_singleton, welPoll_congr (bus_settings hv)]

theorem writeEnableTxns_map (s : State) : (writeEnableTxns s).map .bus = writeEnableOutputs s := rfl

theorem doWriteEnable_answered (h : NeverAnswers s (2 + k)) :
    doWriteEnable s = .ok (afterEvents (writeEnableOutputs s) s) ∧
      NeverAnswers (afterEvents (writeEnableOutputs s) s) k := by
  rw [doWriteEnable_eq_issueAll, ← writeEnableTxns_map]
  exact issueAll_answered h

theorem doWriteEnable_waits (h : NeverAnswers s r) (hr : r < 2) :
    doWriteEnable s = .error (.unanswered (afterEvents ((writeEnableOutputs s).take (r + 1)) s)) := by
  rw [doWriteEnable_eq_issueAll, ← writeEnableTxns_map]
  exact issueAll_waits h hr (by simp [writeEnableTxns, plainCommand, welPoll, statusPoll, mapTarget])

/-! ### An operation with a transient `chipState` -/

/-- The shape that `EraseSector`, `EraseChip` and `ProgramChunk` share: `WriteEnable()`, then `chipState` `c` while the
transactions `ts` are issued, then `Idle` (40 R125, R126; 41 R150). -/
def operate (c : ChipState) (ts : List Txn) (s : State) : Except Stop State := do
  let s ← doWriteEnable s
  let s ← issueAll ts (setChip c s)
  .ok (setChip .idle s)

/-- What it issues. -/
def operateOutputs (s : State) (ts : List Txn) : List Event := writeEnableOutputs s ++ ts.map .bus

theorem operate_answered (c : ChipState) (h : NeverAnswers s (2 + ts.length + k)) :
    operate c ts s = .ok (setChip .idle (afterEvents (operateOutputs s ts) s)) ∧
      NeverAnswers (setChip .idle (afterEvents (operateOutputs s ts) s)) k := by
  rw [Nat.add_assoc] at h
  obtain ⟨henable, h1⟩ := doWriteEnable_answered h
  have h2 : NeverAnswers (setChip c (afterEvents (writeEnableOutputs s) s)) (ts.length + k) := h1
  obtain ⟨hts, h3⟩ := issueAll_answered h2
  rw [afterEvents_setChip, ← afterEvents_append, ← operateOutputs] at hts h3
  refine ⟨?_, h3⟩
  rw [operate, henable, ok_bind, hts, ok_bind, setChip_setChip]

/-- Waiting for transaction `r`, its first two those of `WriteEnable()`. -/
theorem operate_waits (c : ChipState) (h : NeverAnswers s r) (hr : r < 2 + ts.length)
    (hmap : ∀ t ∈ ts, mapTarget t = none) :
    operate c ts s = .error (.unanswered (setChip (if r < 2 then s.chipState else c)
      (afterEvents ((operateOutputs s ts).take (r + 1)) s))) := by
  by_cases hlt : r < 2
  · have hkeep : (afterEvents ((operateOutputs s ts).take (r + 1)) s).chipState = s.chipState := by
      rw [afterEvents_frame]
    rw [if_pos hlt, setChip_self hkeep, operate, doWriteEnable_waits h hlt, error_bind, operateOutputs,
      List.take_append_of_le_length (Nat.succ_le_of_lt hlt)]
  · obtain ⟨q, rfl⟩ := Nat.exists_eq_add_of_le (Nat.le_of_not_lt hlt)
    obtain ⟨henable, h1⟩ := doWriteEnable_answered h
    have h2 : NeverAnswers (setChip c (afterEvents (writeEnableOutputs s) s)) q := h1
    have hts := issueAll_waits h2 (by omega) hmap
    have htake : (operateOutputs s ts).take (2 + q + 1) = writeEnableOutputs s ++ (ts.map Event.bus).take (q + 1) := by
      rw [Nat.add_assoc]
      exact List.take_length_add_append (l₁ := writeEnableOutputs s) (q + 1)
    rw [afterEvents_setChip, ← afterEvents_append, ← htake] at hts
    rw [if_neg hlt, operate, henable, ok_bind, hts, error_bind]

end

/-! ### The operations of this shape -/

/-- After `WriteEnable()`, `EraseSector(addr)` (40 R125). -/
def eraseSectorTxns (s : State) (addr : Nat) : List Txn :=
  [addressCommand s (eraseOpcode s) .absent addr, readyPoll s s.profile.sectorEraseTimeoutMs]

/-- After `WriteEnable()`, `EraseChip()` (40 R126). -/
def eraseChipTxns (s : State) : List Txn :=
  [plainCommand s s.profile.opEraseChip .absent, readyPoll s s.profile.maxEraseTimeoutMs]

/-- After `WriteEnable()`, `ProgramChunk` with its bytes fetched (41 R150). -/
def programTxns (s : State) (off : Nat) (data : List Byte) : List Txn :=
  [addressCommand s (programOpcode s) (currentLines s) off, .transmit data, readyPoll s s.profile.programTimeoutMs]

theorem doEraseSector_eq_operate (addr : Nat) (s : State) :
    doEraseSector addr s = operate .erasing (eraseSectorTxns s addr) s :=
  bind_congr_ok fun u hu => by
    have hset : SameSettings s (setChip .erasing u) := sameSettings_setChip (doWriteEnable_settings hu)
    dsimp only
    rw [eraseSectorTxns, issueAll, bind_assoc, addressCommand_congr hset, eraseOpcode, hset.profile, hset.iface]
    exact bind_congr_ok fun v hv => by
      have hset' := sameSettings_trans hset (bus_settings hv)
      rw [issueAll_singleton, doPollReady, readyPoll_congr hset', hset'.profile]

theorem doEraseChip_eq_operate (s : State) : doEraseChip s = operate .erasing (eraseChipTxns s) s :=
  bind_congr_ok fun u hu => by
    have hset : SameSettings s (setChip .erasing u) := sameSettings_setChip (doWriteEnable_settings hu)
    dsimp only
    rw [eraseChipTxns, issueAll, bind_assoc, plainCommand_congr hset, hset.profile]
    exact bind_congr_ok fun v hv => by
      have hset' := sameSettings_trans hset (bus_settings hv)
      rw [issueAll_singleton, doPollReady, readyPoll_congr hset', hset'.profile]

theorem doProgramChunk_eq_operate (off n src : Nat) (s : State) :
    doProgramChunk off n src s = readBytes src n s >>= fun r => operate .programming (programTxns r.2 off r.1) r.2 :=
  bind_congr_ok fun ⟨data, r⟩ _ => bind_congr_ok fun u hu => by
    have hset : SameSettings r (setChip .programming u) := sameSettings_setChip (doWriteEnable_settings hu)
    dsimp only
    rw [programTxns, issueAll, bind_assoc, addressCommand_congr hset, programOpcode, currentLines, hset.profile, hset.iface]
    refine bind_congr_ok fun v hv => ?_
    rw [issueAll, bind_assoc]
    exact bind_congr_ok fun w hw => by
      have hset' := sameSettings_trans hset (sameSettings_trans (bus_settings hv) (bus_settings hw))
      rw [issueAll_singleton, doPollReady, readyPoll_congr hset', hset'.profile]

end Sys2Proof.Machine

/-! PROOF. The waits of the erase commands (10 R28; 40 R129; 43 R191): `EraseSector` and `EraseChip` alone, and the sectors
that `SECTOR_ERASE` has done when it stops in one. -/

namespace Sys2Proof.Machine

/-! ### The operations -/

section
variable {s : State} {k r : Nat}

theorem doEraseSector_answered (addr : Nat) (h : NeverAnswers s (4 + k)) :
    doEraseSector addr s = .ok (setChip .idle (afterEvents (eraseSectorOutputs s addr) s)) ∧
      NeverAnswers (setChip .idle (afterEvents (eraseSectorOutputs s addr) s)) k := by
  rw [doEraseSector_eq_operate]
  exact operate_answered (ts := eraseSectorTxns s addr) .erasing h

theorem doEraseSector_waits (addr : Nat) (h : NeverAnswers s r) (hr : r < 4) :
    doEraseSector addr s = .error (.unanswered (setChip (if r < 2 then s.chipState else .erasing)
      (afterEvents ((eraseSectorOutputs s addr).take (r + 1)) s))) := by
  rw [doEraseSector_eq_operate]
  exact operate_waits (ts := eraseSectorTxns s addr) .erasing h hr
    (by simp [eraseSectorTxns, addressCommand, readyPoll, statusPoll, mapTarget])

theorem doEraseChip_waits (h : NeverAnswers s r) (hr : r < 4) :
    doEraseChip s = .error (.unanswered (setChip (if r < 2 then s.chipState else .erasing)
      (afterEvents ((eraseChipOutputs s).take (r + 1)) s))) := by
  rw [doEraseChip_eq_operate]
  exact operate_waits (ts := eraseChipTxns s) .erasing h hr
    (by simp [eraseChipTxns, plainCommand, readyPoll, statusPoll, mapTarget])

theorem doMapDisable_answered (h : NeverAnswers s (1 + k)) :
    doMapDisable s = .ok (setChip .idle (afterEvents [.bus .disableMemoryMap] s)) ∧
      NeverAnswers (setChip .idle (afterEvents [.bus .disableMemoryMap] s)) k := by
  rw [Nat.add_comm] at h
  obtain ⟨hbus, hnext⟩ := bus_answered (t := .disableMemoryMap) h
  exact ⟨by rw [doMapDisable, hbus]; rfl, hnext⟩

theorem eraseChipOutputs_congr {s' : State} (h : SameSettings s s') : eraseChipOutputs s' = eraseChipOutputs s := by
  simp only [eraseChipOutputs, writeEnableOutputs_congr h, plainCommand_congr h, readyPoll_congr h, h.profile]

theorem sectorEraseInRange_iff (s : State) (a e : Word) :
    sectorEraseInRange a e s = true ↔ ¬ operandsOutOfRange s (.sectorErase a e) := by
  have hout : operandsOutOfRange s (.sectorErase a e) ↔ s.platform.enforceRange = true ∧
      (s.profile.flashSizeBytes ≤ toOffset s a ∨ s.profile.flashSizeBytes ≤ toOffset s e) := Iff.rfl
  cases h : s.platform.enforceRange <;> simp [sectorEraseInRange, hout, h]

end

/-! ### The sectors of a range -/

/-- `n` sectors in a row, the first of them number `m`. -/
def sectorRow (sector m n : Nat) : List Nat := (List.range n).map fun i => (m + i) * sector

theorem sectorRow_succ (sector m n : Nat) :
    sectorRow sector m (n + 1) = m * sector :: sectorRow sector (m + 1) n := by
  simp [sectorRow, List.range_succ_eq_map, Function.comp_def, Nat.add_assoc, Nat.add_comm 1]

/-- A touched sector with the ones before it. -/
theorem touchedSectors_getElem? {sector start stop j a : Nat} (hs : 0 < sector)
    (h : (touchedSectors sector start stop)[j]? = some a) :
    a = (start / sector + j) * sector ∧ a ≤ stop ∧
      (touchedSectors sector start stop).take j = sectorRow sector (start / sector) j := by
  simp only [touchedSectors, List.getElem?_map, Option.map_eq_some_iff, List.getElem?_eq_some_iff, List.getElem_range,
    List.length_range] at h
  obtain ⟨_, ⟨hj, rfl⟩, rfl⟩ := h
  refine ⟨rfl, (Nat.le_div_iff_mul_le hs).mp (by omega), ?_⟩
  rw [touchedSectors, ← List.map_take, List.take_range, Nat.min_eq_left hj.le]
  rfl

/-! ### The loop -/

/-- Only the last `EraseRange` stands. -/
theorem setEraseRange_setChip_setEraseRange (e f : EraseRange) (c : ChipState) (s : State) :
    setEraseRange f (setChip c (setEraseRange e s)) = setEraseRange f (setChip c s) := rfl

section
variable {s u : State} {start stop fuel m j k r a : Nat}

/-- The state after the sector at `a`, begun in `u`; the outputs are built from the settings of `s`. -/
def sectorDone (s : State) (start stop a : Nat) (u : State) : State :=
  setChip .idle (afterEvents (eraseSectorOutputs s a) (setEraseRange ⟨start, stop, a⟩ u))

theorem sectorDone_settings (h : SameSettings s u) : SameSettings s (sectorDone s start stop a u) :=
  have hrange : SameSettings s (setEraseRange ⟨start, stop, a⟩ u) := sameSettings_trans h ⟨rfl, rfl, rfl⟩
  sameSettings_setChip (sameSettings_trans hrange (sameSettings_afterEvents _ _))

/-- A sector whose transactions are answered is done, and the loop goes on. -/
theorem eraseLoop_answered (hset : SameSettings s u) (h : NeverAnswers u (4 + k)) (ha : a ≤ stop) :
    eraseLoop start stop (fuel + 1) a u =
        eraseLoop start stop fuel (a + s.profile.sectorSizeBytes) (sectorDone s start stop a u) ∧
      NeverAnswers (sectorDone s start stop a u) k := by
  have h' : NeverAnswers (setEraseRange ⟨start, stop, a⟩ u) (4 + k) := h
  have hset' : SameSettings s (setEraseRange ⟨start, stop, a⟩ u) := sameSettings_trans hset ⟨rfl, rfl, rfl⟩
  obtain ⟨hgoes, hnext⟩ := doEraseSector_answered a h'
  rw [eraseSectorOutputs_congr hset', ← sectorDone] at hgoes hnext
  refine ⟨?_, hnext⟩
  rw [eraseLoop, if_pos ha, hgoes, ok_bind, (sectorDone_settings hset).profile]

/-- The loop that stops in the sector it begins with. -/
theorem eraseLoop_waits_here (hset : SameSettings s u) (hidle : u.chipState = .idle) (h : NeverAnswers u r)
    (hr : r < 4) (ha : a ≤ stop) :
    eraseLoop start stop (fuel + 1) a u = .error (.unanswered (setEraseRange ⟨start, stop, a⟩
      (setChip (if r < 2 then .idle else .erasing) (afterEvents ((eraseSectorOutputs s a).take (r + 1)) u)))) := by
  have h' : NeverAnswers (setEraseRange ⟨start, stop, a⟩ u) r := h
  have hset' : SameSettings s (setEraseRange ⟨start, stop, a⟩ u) := sameSettings_trans hset ⟨rfl, rfl, rfl⟩
  rw [eraseLoop, if_pos ha, doEraseSector_waits a h' hr, eraseSectorOutputs_congr hset', setEraseRange_chipState, hidle,
    afterEvents_setEraseRange]
  rfl

/-- The loop that begins at sector `m` and stops in sector `m + j`. -/
theorem eraseLoop_waits (hset : SameSettings s u) (hidle : u.chipState = .idle) (h : NeverAnswers u (4 * j + r))
    (hr : r < 4) (hs : 0 < s.profile.sectorSizeBytes) (hj : (m + j) * s.profile.sectorSizeBytes ≤ stop)
    (hfuel : stop < m * s.profile.sectorSizeBytes + fuel) :
    eraseLoop start stop fuel (m * s.profile.sectorSizeBytes) u =
      .error (.unanswered (setEraseRange ⟨start, stop, (m + j) * s.profile.sectorSizeBytes⟩
        (setChip (if r < 2 then .idle else .erasing) (afterEvents
          ((sectorRow s.profile.sectorSizeBytes m j).flatMap (eraseSectorOutputs s) ++
            (eraseSectorOutputs s ((m + j) * s.profile.sectorSizeBytes)).take (r + 1)) u)))) := by
  have hle : m * s.profile.sectorSizeBytes ≤ stop := Nat.le_trans (Nat.mul_le_mul_right _ (Nat.le_add_right m j)) hj
  obtain ⟨fuel, rfl⟩ : ∃ f, fuel = f + 1 := Nat.exists_eq_succ_of_ne_zero (by omega)
  induction j generalizing u m fuel with
  | zero =>
    rw [Nat.mul_zero, Nat.zero_add] at h
    exact eraseLoop_waits_here hset hidle h hr hle
  | succ j ih =>
    have hnext : m * s.profile.sectorSizeBytes + s.profile.sectorSizeBytes = (m + 1) * s.profile.sectorSizeBytes :=
      (Nat.succ_mul _ _).symm
    have hrow : m + 1 + j = m + (j + 1) := by omega
    have hle' : (m + 1) * s.profile.sectorSizeBytes ≤ stop :=
      Nat.le_trans (Nat.mul_le_mul_right _ (by omega)) hj
    rw [show 4 * (j + 1) + r = 4 + (4 * j + r) by omega] at h
    obtain ⟨hstep, h'⟩ := eraseLoop_answered (start := start) (fuel := fuel) hset h hle
    obtain ⟨fuel, rfl⟩ : ∃ f, fuel = f + 1 := Nat.exists_eq_succ_of_ne_zero (by omega)
    rw [hstep, hnext, ih (m := m + 1) (sectorDone_settings hset) rfl h' (by rwa [hrow]) hle' fuel (by omega), hrow,
      sectorDone, afterEvents_setEraseRange, afterEvents_setChip, afterEvents_setEraseRange, setChip_setChip,
      setEraseRange_setChip_setEraseRange, ← afterEvents_append, ← List.append_assoc, sectorRow_succ, List.flatMap_cons]

end

/-! ### The commands -/

section
variable {s : State} {r : Nat}

theorem exec_eraseSector_waits {addr : Word} (hc : s.chipState = .configured ∨ s.chipState = .idle)
    (h : NeverAnswers s r) (hr : r < 4) (hrange : ¬ operandsOutOfRange s (.eraseSector addr)) :
    exec (.eraseSector addr) s = .next (setChip (if r < 2 then s.chipState else .erasing)
      (afterEvents ((eraseSectorOutputs s addr.toNat).take (r + 1)) s)) := by
  refine (runCommand_inRange (admission_commandMode hc) ((eraseSectorInRange_iff s addr).mpr hrange)).trans ?_
  rw [doEraseSector_waits addr.toNat h hr]
  rfl

theorem exec_eraseChip_waits (hc : s.chipState = .configured ∨ s.chipState = .idle)
    (h : NeverAnswers s r) (hr : r < 4) :
    exec .eraseChip s = .next (setChip (if r < 2 then s.chipState else .erasing)
      (afterEvents ((eraseChipOutputs s).take (r + 1)) s)) := by
  rw [exec, execEraseChip, runCommand_admitted (admission_commandMode hc), doEraseChip_waits h hr]
  rfl

theorem exec_massErase_waits {p : Word}
    (hc : s.chipState = .configured ∨ s.chipState = .idle ∨ s.chipState = .memoryMapped)
    (h : NeverAnswers s (1 + r)) (hr : r < 4) :
    exec (.massErase p) s = .next (setChip (if r < 2 then .idle else .erasing)
      (afterEvents (.bus .disableMemoryMap :: (eraseChipOutputs s).take (r + 1)) s)) := by
  obtain ⟨hdisable, h'⟩ := doMapDisable_answered h
  rw [exec, execMassErase, runCommand_admitted (admission_anyMode hc), hdisable, ok_bind, doEraseChip_waits h' hr,
    eraseChipOutputs_congr (sameSettings_setChip (sameSettings_afterEvents _ s)), afterEvents_setChip, setChip_setChip,
    ← afterEvents_append, setChip_chipState, error_bind, finish, List.singleton_append]

theorem exec_sectorErase_waits {a e : Word} {j sector : Nat}
    (hc : s.chipState = .configured ∨ s.chipState = .idle ∨ s.chipState = .memoryMapped)
    (h : NeverAnswers s (1 + (4 * j + r))) (hr : r < 4) (hs : 0 < s.profile.sectorSizeBytes)
    (hrange : ¬ operandsOutOfRange s (.sectorErase a e))
    (hsector : (touchedSectors s.profile.sectorSizeBytes (toOffset s a) (toOffset s e))[j]? = some sector) :
    exec (.sectorErase a e) s = .next (setEraseRange ⟨toOffset s a, toOffset s e, sector⟩
      (setChip (if r < 2 then .idle else .erasing) (afterEvents (.bus .disableMemoryMap ::
        (((touchedSectors s.profile.sectorSizeBytes (toOffset s a) (toOffset s e)).take j).flatMap (eraseSectorOutputs s) ++
          (eraseSectorOutputs s sector).take (r + 1))) s))) := by
  obtain ⟨rfl, hle, htake⟩ := touchedSectors_getElem? hs hsector
  obtain ⟨hdisable, h'⟩ := doMapDisable_answered h
  obtain ⟨u, hu⟩ : ∃ u, u = setChip .idle (afterEvents [.bus .disableMemoryMap] s) := ⟨_, rfl⟩
  rw [← hu] at hdisable h'
  have hset : SameSettings s u := hu ▸ sameSettings_setChip (sameSettings_afterEvents _ s)
  have hstart : alignedStart u (toOffset s a) = toOffset s a / s.profile.sectorSizeBytes * s.profile.sectorSizeBytes := by
    rw [alignedStart, hset.profile, Nat.div_mul_self_eq_mod_sub_self]
  rw [exec, execSectorErase, runCommand_admitted (admission_anyMode hc)]
  dsimp only
  rw [requireRange_ok ((sectorEraseInRange_iff s a e).mpr hrange), ok_bind, hdisable, ok_bind, htake, hstart]
  have hloop := eraseLoop_waits (s := s) (start := toOffset s a) (stop := toOffset s e)
    (u := setEraseRange ⟨toOffset s a, toOffset s e, toOffset s a / s.profile.sectorSizeBytes * s.profile.sectorSizeBytes⟩ u)
    (fuel := toOffset s e + 1 - toOffset s a / s.profile.sectorSizeBytes * s.profile.sectorSizeBytes)
    (sameSettings_trans hset ⟨rfl, rfl, rfl⟩) (hu ▸ rfl) h' hr hs hle (by omega)
  rw [hloop, hu, error_bind, finish, afterEvents_setEraseRange, setEraseRange_setChip_setEraseRange, afterEvents_setChip,
    setChip_setChip, ← afterEvents_append, List.singleton_append]

end

/-! ### The statement -/

/-- Settles O31: each erase stops right after the transaction that is never answered; `chipState` is `Erasing` once its
`WriteEnable()` is done. -/
theorem eraseWaits : Obligations.EraseWaits := by
  unfold Obligations.EraseWaits
  exact ⟨fun _ _ _ hc h hr hrange => exec_eraseSector_waits hc h hr hrange,
    fun _ _ hc h hr => exec_eraseChip_waits hc h hr,
    fun _ _ _ hc h hr => exec_massErase_waits hc h hr,
    fun _ _ _ _ _ _ hc h hr hs hrange hsector => exec_sectorErase_waits hc (Nat.add_assoc .. ▸ h) hr hs hrange hsector⟩

end Sys2Proof.Machine

/-! PROOF. The wait of `WRITE` (10 R29; 40 R129; 41 R150 to R152): the chunks of a range, one after the other, and the one in
which it stops. -/

namespace Sys2Proof.Machine

/-! ### `ProgramChunk` -/

section
variable {s : State} {src k r : Nat} {data : List Byte}

theorem byteReads_succ (src n : Nat) : byteReads src (n + 1) = .memRead src 1 :: byteReads (src + 1) n := by
  simp [byteReads, List.range_succ_eq_map, Function.comp_def, Nat.add_assoc, Nat.add_comm 1]

theorem length_byteReads (src n : Nat) : (byteReads src n).length = n := by simp [byteReads]

/-- The fetch of a buffer in RAM (20 R71; 41 R150). -/
theorem readBytes_ok (h : RamHolds s src data) :
    readBytes src data.length s = .ok (data, afterEvents (byteReads src data.length) s) := by
  induction data generalizing src s with
  | nil => rfl
  | cons b bs ih =>
    obtain ⟨-, hread⟩ : _ ∧ memByte s src = .ok b := h 0 b rfl
    have hrest : RamHolds (logRead src 1 s) (src + 1) bs := ramHolds_congr (ramHolds_drop h 1) rfl ⟨rfl, rfl, rfl⟩
    rw [List.length_cons, byteReads_succ, readBytes, readByte, hread]
    dsimp only
    rw [ok_bind]
    dsimp only
    rw [ih hrest]
    rfl

/-- Reads are no transactions. -/
theorem neverAnswers_byteReads (src n : Nat) (h : NeverAnswers s k) :
    NeverAnswers (afterEvents (byteReads src n) s) k := by
  have hnone : (byteReads src n).filter isBusEvent = [] := by simp [byteReads, isBusEvent]
  have hframe := afterEvents_frame (byteReads src n) s
  rw [hnone] at hframe
  refine neverAnswers_congr h ?_ ?_ ?_ <;> rw [hframe]
  rfl

theorem programChunkOutputs_eq (s : State) (off src : Nat) (data : List Byte) :
    programChunkOutputs s off src data = byteReads src data.length ++ operateOutputs s (programTxns s off data) := by
  rw [programChunkOutputs, List.append_assoc]
  rfl

theorem operateOutputs_programTxns_congr {s s' : State} (h : SameSettings s s') (off : Nat) (data : List Byte) :
    operateOutputs s' (programTxns s' off data) = operateOutputs s (programTxns s off data) := by
  simp only [operateOutputs, programTxns, writeEnableOutputs_congr h, addressCommand_congr h, readyPoll_congr h,
    programOpcode, currentLines, h.profile, h.iface]

theorem doProgramChunk_answered (off : Nat) (hram : RamHolds s src data) (h : NeverAnswers s (5 + k)) :
    doProgramChunk off data.length src s = .ok (setChip .idle (afterEvents (programChunkOutputs s off src data) s)) ∧
      NeverAnswers (setChip .idle (afterEvents (programChunkOutputs s off src data) s)) k := by
  obtain ⟨u, hu⟩ : ∃ u, u = afterEvents (byteReads src data.length) s := ⟨_, rfl⟩
  have hset : SameSettings s u := hu ▸ sameSettings_afterEvents _ s
  have h' : NeverAnswers u (5 + k) := hu ▸ neverAnswers_byteReads src data.length h
  have hgoes := operate_answered (ts := programTxns u off data) .programming h'
  rw [operateOutputs_programTxns_congr hset] at hgoes
  rw [doProgramChunk_eq_operate, readBytes_ok hram, ok_bind, programChunkOutputs_eq, afterEvents_append, ← hu]
  exact hgoes

theorem doProgramChunk_waits (off : Nat) (hram : RamHolds s src data) (h : NeverAnswers s r) (hr : r < 5) :
    doProgramChunk off data.length src s = .error (.unanswered (setChip (if r < 2 then s.chipState else .programming)
      (afterEvents ((programChunkOutputs s off src data).take (data.length + (r + 1))) s))) := by
  obtain ⟨u, hu⟩ : ∃ u, u = afterEvents (byteReads src data.length) s := ⟨_, rfl⟩
  have hset : SameSettings s u := hu ▸ sameSettings_afterEvents _ s
  have hchip : u.chipState = s.chipState := by rw [hu, afterEvents_frame]
  have h' : NeverAnswers u r := hu ▸ neverAnswers_byteReads src data.length h
  have hwait := operate_waits (ts := programTxns u off data) .programming h' hr
    (by simp [programTxns, addressCommand, readyPoll, statusPoll, mapTarget])
  rw [operateOutputs_programTxns_congr hset, hchip] at hwait
  have htake : (programChunkOutputs s off src data).take (data.length + (r + 1)) =
      byteReads src data.length ++ (operateOutputs s (programTxns s off data)).take (r + 1) := by
    rw [programChunkOutputs_eq, ← List.take_length_add_append, length_byteReads]
  rw [doProgramChunk_eq_operate, readBytes_ok hram, ok_bind, htake, afterEvents_append, ← hu]
  exact hwait

theorem writeInRange_iff (s : State) (address size buffer : Word) :
    writeInRange address size buffer s = true ↔ ¬ operandsOutOfRange s (.write address size buffer) := by
  have hout : operandsOutOfRange s (.write address size buffer) ↔ 2 ^ 32 < buffer.toNat + size.toNat ∨
      s.platform.enforceRange = true ∧ s.profile.flashSizeBytes < toOffset s address + size.toNat := Iff.rfl
  cases h : s.platform.enforceRange <;> simp [writeInRange, hout, h]

end

/-! ### The chunks of a range -/

section
variable {page off size : Nat}

/-- No chunk begins before the range. -/
theorem le_of_mem_pageChunks {c : Nat × Nat} (h : c ∈ pageChunks page off size) : off ≤ c.1 := by
  unfold pageChunks at h
  split at h
  · cases h
  · obtain ⟨j, -, rfl⟩ := List.mem_map.mp h
    exact le_max_left _ _

/-- The part of `[off, off + size)` in the page `j` pages after that of `off`: offset and length. -/
def pagePiece (page off size j : Nat) : Nat × Nat :=
  (max off ((off / page + j) * page),
    min (off + size) ((off / page + j + 1) * page) - max off ((off / page + j) * page))

theorem pageChunks_eq_map (hs : 0 < size) :
    pageChunks page off size = (List.range ((off % page + size + page - 1) / page)).map (pagePiece page off size) := by
  rw [pageChunks, if_neg (by omega)]
  rfl

/-- Where the page of `off` ends. -/
theorem page_end_eq (hp : 0 < page) : (off / page + 1) * page = off + (page - off % page) := by
  have hdiv := Nat.div_add_mod' off page
  have hmod := Nat.mod_lt off hp
  rw [Nat.succ_mul]
  omega

theorem pagePiece_zero (hp : 0 < page) : pagePiece page off size 0 = (off, firstChunk page off size) := by
  have hstart : max off (off / page * page) = off := max_eq_left (Nat.div_mul_le_self off page)
  rw [pagePiece, Nat.add_zero, hstart, page_end_eq hp, firstChunk]
  congr 1
  omega

theorem pos_of_pageChunks {j : Nat} {c : Nat × Nat} (h : (pageChunks page off size)[j]? = some c) : 0 < size :=
  Nat.pos_of_ne_zero fun hs => by rw [pageChunks, if_pos hs] at h; cases h

/-- Past a chunk that fills its page, the pieces are those of the rest of the range. -/
theorem pagePiece_succ (hp : 0 < page) (hn : page - off % page < size) (j : Nat) :
    pagePiece page off size (j + 1) =
      pagePiece page (off + (page - off % page)) (size - (page - off % page)) j := by
  have hend := page_end_eq (off := off) hp
  have hquot : (off + (page - off % page)) / page = off / page + 1 := by rw [← hend, Nat.mul_div_cancel _ hp]
  have hle : (off / page + 1) * page ≤ (off / page + 1 + j) * page := Nat.mul_le_mul_right _ (Nat.le_add_right _ j)
  have hsum : off + (page - off % page) + (size - (page - off % page)) = off + size := by omega
  have hpage : off / page + (j + 1) = off / page + 1 + j := by omega
  rw [pagePiece, pagePiece, hquot, hsum, hpage, max_eq_right (by omega), max_eq_right (by omega)]

/-- The first chunk reaches to the end of its page, or of the range; the others are those of what is left. -/
theorem pageChunks_cons (hp : 0 < page) (hs : 0 < size) :
    pageChunks page off size = (off, firstChunk page off size) ::
      pageChunks page (off + firstChunk page off size) (size - firstChunk page off size) := by
  have hmod := Nat.mod_lt off hp
  rw [pageChunks_eq_map hs]
  rcases Nat.lt_or_ge (page - off % page) size with hmore | hlast
  · have hfirst : firstChunk page off size = page - off % page := Nat.min_eq_right hmore.le
    have hboundary : (off + (page - off % page)) % page = 0 := by rw [← page_end_eq hp, Nat.mul_mod_left]
    have hcount : (off % page + size + page - 1) / page = (size - (page - off % page) + page - 1) / page + 1 := by
      rw [← Nat.add_div_right _ hp]
      congr 1
      omega
    rw [hcount, List.range_succ_eq_map, List.map_cons, List.map_map, pagePiece_zero hp, hfirst,
      pageChunks_eq_map (by omega), hboundary, Nat.zero_add]
    exact congrArg _ (List.map_congr_left fun j _ => pagePiece_succ hp hmore j)
  · have hfirst : firstChunk page off size = size := Nat.min_eq_left hlast
    have hcount : (off % page + size + page - 1) / page = 1 := Nat.div_eq_of_lt_le (by omega) (by omega)
    rw [hcount, List.range_one, List.map_singleton, pagePiece_zero hp, hfirst, Nat.sub_self, pageChunks, if_pos rfl]

/-- The outputs of a chunk of what is left are those it has in the whole write. -/
theorem chunkOutputs_drop {s : State} {buffer bo n : Nat} {data : List Byte} {c : Nat × Nat} (h : off + n ≤ c.1) :
    chunkOutputs s (off + n) (buffer + (bo + n)) (data.drop n) c = chunkOutputs s off (buffer + bo) data c := by
  have hsrc : buffer + (bo + n) + (c.1 - (off + n)) = buffer + bo + (c.1 - off) := by omega
  have hdrop : n + (c.1 - (off + n)) = c.1 - off := by omega
  rw [chunkOutputs, chunkOutputs, hsrc, List.drop_drop, hdrop]

end

/-! ### The loop -/

section
variable {s u : State} {buffer fuel cur bo j k n r : Nat} {data : List Byte} {c : Nat × Nat}

/-- Only the last `WriteCursor` stands. -/
theorem setWriteCursor_setChip_setWriteCursor (v w : WriteCursor) (c : ChipState) (s : State) :
    setWriteCursor w (setChip c (setWriteCursor v s)) = setWriteCursor w (setChip c s) := rfl

/-- A `WRITE` that began in `s` stands between two chunks in `u`. -/
structure BetweenChunks (s u : State) : Prop where
  settings : SameSettings s u
  ram : u.ram = s.ram
  idle : u.chipState = .idle

/-- The state after a chunk of `n` bytes at `cur`, the first of `data`, begun in `u`; the outputs are built from the
settings of `s`. -/
def chunkDone (s : State) (buffer cur bo n : Nat) (data : List Byte) (u : State) : State :=
  setChip .idle (afterEvents (chunkOutputs s cur (buffer + bo) data (cur, n))
    (setWriteCursor ⟨cur, data.length, bo⟩ u))

theorem betweenChunks_chunkDone (h : BetweenChunks s u) : BetweenChunks s (chunkDone s buffer cur bo n data u) where
  settings :=
    have hcursor : SameSettings s (setWriteCursor ⟨cur, data.length, bo⟩ u) :=
      sameSettings_trans h.settings ⟨rfl, rfl, rfl⟩
    sameSettings_setChip (sameSettings_trans hcursor (sameSettings_afterEvents _ _))
  ram := by
    rw [chunkDone, setChip_ram, afterEvents_frame]
    exact h.ram
  idle := rfl

theorem chunkOutputs_first (s : State) (cur src n : Nat) (data : List Byte) :
    chunkOutputs s cur src data (cur, n) = programChunkOutputs s cur src (data.take n) := by
  simp [chunkOutputs]

/-- The buffer of a chunk, whatever the chunks before it did. -/
theorem ramHolds_chunk (hbetween : BetweenChunks s u) (hram : RamHolds s (buffer + bo) data) (w : WriteCursor) (n : Nat) :
    RamHolds (setWriteCursor w u) (buffer + bo) (data.take n) :=
  ramHolds_congr (ramHolds_take hram n) hbetween.ram (sameSettings_trans hbetween.settings ⟨rfl, rfl, rfl⟩)

/-- A chunk whose transactions are answered is done, and the loop goes on. -/
theorem writeLoop_answered (hbetween : BetweenChunks s u) (hram : RamHolds s (buffer + bo) data)
    (h : NeverAnswers u (5 + k)) (hn0 : 0 < n) (hn : n ≤ data.length) :
    writeLoop buffer (fuel + 1) cur data.length bo n u =
        writeLoop buffer fuel (cur + n) (data.length - n) (bo + n) (min s.profile.pageSizeBytes (data.length - n))
          (chunkDone s buffer cur bo n data u) ∧
      NeverAnswers (chunkDone s buffer cur bo n data u) k := by
  have hcursor : SameSettings s (setWriteCursor ⟨cur, data.length, bo⟩ u) :=
    sameSettings_trans hbetween.settings ⟨rfl, rfl, rfl⟩
  have h' : NeverAnswers (setWriteCursor ⟨cur, data.length, bo⟩ u) (5 + k) := h
  obtain ⟨hgoes, hnext⟩ := doProgramChunk_answered cur (ramHolds_chunk hbetween hram _ n) h'
  rw [programChunkOutputs_congr hcursor, ← chunkOutputs_first, ← chunkDone] at hgoes hnext
  rw [List.length_take, Nat.min_eq_left hn] at hgoes
  refine ⟨?_, hnext⟩
  rw [writeLoop, if_neg (by omega), hgoes, ok_bind, (betweenChunks_chunkDone hbetween).settings.profile]

/-- The loop that stops in the chunk it begins with. -/
theorem writeLoop_waits_here (hbetween : BetweenChunks s u) (hram : RamHolds s (buffer + bo) data)
    (h : NeverAnswers u r) (hr : r < 5) (hn0 : 0 < n) (hn : n ≤ data.length) :
    writeLoop buffer (fuel + 1) cur data.length bo n u =
      .error (.unanswered (setWriteCursor ⟨cur, data.length, bo⟩ (setChip (if r < 2 then .idle else .programming)
        (afterEvents ((chunkOutputs s cur (buffer + bo) data (cur, n)).take (n + r + 1)) u)))) := by
  have hcursor : SameSettings s (setWriteCursor ⟨cur, data.length, bo⟩ u) :=
    sameSettings_trans hbetween.settings ⟨rfl, rfl, rfl⟩
  have h' : NeverAnswers (setWriteCursor ⟨cur, data.length, bo⟩ u) r := h
  have hwait := doProgramChunk_waits cur (ramHolds_chunk hbetween hram ⟨cur, data.length, bo⟩ n) h' hr
  rw [programChunkOutputs_congr hcursor, ← chunkOutputs_first, List.length_take, Nat.min_eq_left hn,
    setWriteCursor_chipState, hbetween.idle, afterEvents_setWriteCursor] at hwait
  rw [writeLoop, if_neg (by omega), hwait]
  rfl

/-- The loop that stops in chunk `j` of what it has left to write. -/
theorem writeLoop_waits (hbetween : BetweenChunks s u) (hram : RamHolds s (buffer + bo) data)
    (h : NeverAnswers u (5 * j + r)) (hr : r < 5) (hp : 0 < s.profile.pageSizeBytes) (hfuel : data.length ≤ fuel)
    (hc : (pageChunks s.profile.pageSizeBytes cur data.length)[j]? = some c) :
    writeLoop buffer fuel cur data.length bo (firstChunk s.profile.pageSizeBytes cur data.length) u =
      .error (.unanswered (setWriteCursor ⟨c.1, data.length - (c.1 - cur), bo + (c.1 - cur)⟩
        (setChip (if r < 2 then .idle else .programming) (afterEvents
          (((pageChunks s.profile.pageSizeBytes cur data.length).take j).flatMap
              (chunkOutputs s cur (buffer + bo) data) ++
            (chunkOutputs s cur (buffer + bo) data c).take (c.2 + r + 1)) u)))) := by
  have hpos := pos_of_pageChunks hc
  obtain ⟨fuel, rfl⟩ : ∃ f, fuel = f + 1 := Nat.exists_eq_succ_of_ne_zero (by omega)
  induction j generalizing u cur bo data fuel with
  | zero =>
    obtain ⟨hn0, hn, -⟩ := firstChunk_bounds (cur := cur) hp hpos
    rw [Nat.mul_zero, Nat.zero_add] at h
    rw [pageChunks_cons hp hpos, List.getElem?_cons_zero, Option.some.injEq] at hc
    obtain rfl := hc
    rw [writeLoop_waits_here hbetween hram h hr hn0 hn, Nat.sub_self]
    rfl
  | succ j ih =>
    obtain ⟨hn0, hn, -⟩ := firstChunk_bounds (cur := cur) hp hpos
    rw [show 5 * (j + 1) + r = 5 + (5 * j + r) by omega] at h
    obtain ⟨hstep, hnext⟩ := writeLoop_answered (cur := cur) (fuel := fuel) hbetween hram h hn0 hn
    rw [hstep, firstChunk_next hp, pageChunks_cons hp hpos]
    rw [pageChunks_cons hp hpos, List.getElem?_cons_succ] at hc
    generalize firstChunk s.profile.pageSizeBytes cur data.length = n at *
    have hlength : (data.drop n).length = data.length - n := List.length_drop
    rw [← hlength] at hc ⊢
    have hpos' := pos_of_pageChunks hc
    obtain ⟨fuel, rfl⟩ : ∃ f, fuel = f + 1 := Nat.exists_eq_succ_of_ne_zero (by omega)
    have hrest : RamHolds s (buffer + (bo + n)) (data.drop n) := by
      rw [← Nat.add_assoc]
      exact ramHolds_drop hram n
    have hle := le_of_mem_pageChunks (List.mem_of_getElem? hc)
    have hlater : ∀ d ∈ (pageChunks s.profile.pageSizeBytes (cur + n) (data.drop n).length).take j,
        chunkOutputs s (cur + n) (buffer + (bo + n)) (data.drop n) d = chunkOutputs s cur (buffer + bo) data d :=
      fun d hd => chunkOutputs_drop (le_of_mem_pageChunks (List.mem_of_mem_take hd))
    have hcursor : (⟨c.1, (data.drop n).length - (c.1 - (cur + n)), bo + n + (c.1 - (cur + n))⟩ : WriteCursor) =
        ⟨c.1, data.length - (c.1 - cur), bo + (c.1 - cur)⟩ := by
      congr 1 <;> omega
    rw [ih (betweenChunks_chunkDone hbetween) hrest hnext hc hpos' fuel (by omega), hcursor, List.flatMap_congr hlater,
      chunkOutputs_drop hle, chunkDone, afterEvents_setChip, afterEvents_setWriteCursor, afterEvents_setWriteCursor,
      setChip_setChip, setWriteCursor_setChip_setWriteCursor, ← afterEvents_append, ← List.append_assoc,
      List.take_succ_cons, List.flatMap_cons]

/-! ### The command -/

/-- `WRITE` that stops in chunk `j`, the loop entered in command mode after its `DisableMemoryMap`. -/
theorem exec_write_waits {address size buffer : Word}
    (ha : s.chipState = .configured ∨ s.chipState = .idle ∨ s.chipState = .memoryMapped)
    (h : NeverAnswers s (1 + (5 * j + r))) (hr : r < 5) (hp : 0 < s.profile.pageSizeBytes)
    (hrange : ¬ operandsOutOfRange s (.write address size buffer)) (hlen : data.length = size.toNat)
    (hram : RamHolds s buffer.toNat data)
    (hc : (pageChunks s.profile.pageSizeBytes (toOffset s address) size.toNat)[j]? = some c) :
    exec (.write address size buffer) s = .next (setWriteCursor
      ⟨c.1, size.toNat - (c.1 - toOffset s address), c.1 - toOffset s address⟩
      (setChip (if r < 2 then .idle else .programming) (afterEvents (.bus .disableMemoryMap ::
        (((pageChunks s.profile.pageSizeBytes (toOffset s address) size.toNat).take j).flatMap
            (chunkOutputs s (toOffset s address) buffer.toNat data) ++
          (chunkOutputs s (toOffset s address) buffer.toNat data c).take (c.2 + r + 1))) s))) := by
  obtain ⟨hdisable, h'⟩ := doMapDisable_answered h
  obtain ⟨u, hu⟩ : ∃ u, u = setChip .idle (afterEvents [.bus .disableMemoryMap] s) := ⟨_, rfl⟩
  rw [← hu] at hdisable h'
  have hset : SameSettings s u := hu ▸ sameSettings_setChip (sameSettings_afterEvents _ s)
  have hbetween : BetweenChunks s (setWriteCursor ⟨toOffset s address, size.toNat, 0⟩ u) :=
    ⟨sameSettings_trans hset ⟨rfl, rfl, rfl⟩, hu ▸ rfl, hu ▸ rfl⟩
  rw [← hlen] at hc
  have hloop := writeLoop_waits (buffer := buffer.toNat) (bo := 0) hbetween hram h' hr hp (Nat.le_refl _) hc
  rw [hlen, Nat.zero_add, Nat.add_zero] at hloop
  rw [exec, execWrite, runCommand_admitted (admission_anyMode ha)]
  dsimp only
  rw [requireRange_ok ((writeInRange_iff s address size buffer).mpr hrange), ok_bind, hdisable, ok_bind, hset.profile,
    hloop, hu, error_bind, finish, afterEvents_setWriteCursor, setWriteCursor_setChip_setWriteCursor,
    afterEvents_setChip, setChip_setChip, ← afterEvents_append, List.singleton_append]

end

/-! ### The statement -/

/-- Settles O32: the chunks before the one that waits are done, and the loop stops right after the transaction that is
never answered. -/
theorem writeWaits : Obligations.WriteWaits := by
  unfold Obligations.WriteWaits
  intro s address size buffer data j r c ha h hr hp hrange hlen hram
  rw [Nat.add_assoc] at h
  exact exec_write_waits ha h hr hp hrange hlen hram

end Sys2Proof.Machine

/-! PROOF. `WRITE` with an `Ok` oracle (41 R150, R151, R153 (a)): each chunk goes on, so that the loop programs every
chunk of the range and returns 1. -/

namespace Sys2Proof.Machine

/-! ### One chunk -/

section
variable {s : State} {src : Nat} {data : List Byte}

theorem issueAll_ok (ts : List Txn) (h : AnswersOk s) : issueAll ts s = .ok (afterEvents (ts.map .bus) s) := by
  induction ts generalizing s with
  | nil => rfl
  | cons t ts ih =>
    rw [issueAll, bus_ok h, ok_bind]
    exact ih (answersOk_afterEvent h)

theorem operate_ok (c : ChipState) (ts : List Txn) (h : AnswersOk s) :
    operate c ts s = .ok (setChip .idle (afterEvents (operateOutputs s ts) s)) := by
  rw [operate, doWriteEnable_ok h, ok_bind, issueAll_ok ts (answersOk_setChip (afterEvents_answersOk _ h)), ok_bind,
    afterEvents_setChip, setChip_setChip, ← afterEvents_append, ← operateOutputs]

/-- `ProgramChunk` of a buffer in RAM (41 R150). -/
theorem doProgramChunk_ok (off : Nat) (hram : RamHolds s src data) (h : AnswersOk s) :
    doProgramChunk off data.length src s = .ok (setChip .idle (afterEvents (programChunkOutputs s off src data) s)) := by
  have hset : SameSettings s (afterEvents (byteReads src data.length) s) := sameSettings_afterEvents _ s
  rw [doProgramChunk_eq_operate, readBytes_ok hram, ok_bind, operate_ok _ _ (afterEvents_answersOk _ h),
    operateOutputs_programTxns_congr hset, ← afterEvents_append, ← programChunkOutputs_eq]

end

/-! ### The loop and its `return` -/

section
variable {s u : State} {buffer fuel cur bo n : Nat} {data : List Byte}

theorem answersOk_chunkDone (h : AnswersOk u) : AnswersOk (chunkDone s buffer cur bo n data u) :=
  have hcursor : AnswersOk (setWriteCursor ⟨cur, data.length, bo⟩ u) := h
  answersOk_setChip (afterEvents_answersOk _ hcursor)

/-- `return` drops the `WriteCursor` (10 R29), so that a chunk leaves its outputs only. -/
theorem complete_chunkDone (v : DWord) (es : List Event) :
    complete v (setChip .idle (afterEvents es (chunkDone s buffer cur bo n data u))) =
      complete v (setChip .idle (afterEvents (chunkOutputs s cur (buffer + bo) data (cur, n) ++ es) u)) := by
  rw [chunkDone, afterEvents_setChip, setChip_setChip, ← afterEvents_append, afterEvents_setWriteCursor]
  rfl

/-- The loop goes on after the chunk it begins with. -/
theorem writeLoop_chunk_ok (hbetween : BetweenChunks s u) (hram : RamHolds s (buffer + bo) data) (h : AnswersOk u)
    (hn0 : 0 < n) (hn : n ≤ data.length) :
    writeLoop buffer (fuel + 1) cur data.length bo n u =
      writeLoop buffer fuel (cur + n) (data.length - n) (bo + n) (min s.profile.pageSizeBytes (data.length - n))
        (chunkDone s buffer cur bo n data u) := by
  have hcursor : SameSettings s (setWriteCursor ⟨cur, data.length, bo⟩ u) :=
    sameSettings_trans hbetween.settings ⟨rfl, rfl, rfl⟩
  have h' : AnswersOk (setWriteCursor ⟨cur, data.length, bo⟩ u) := h
  have hgoes := doProgramChunk_ok cur (ramHolds_chunk hbetween hram _ n) h'
  rw [programChunkOutputs_congr hcursor, ← chunkOutputs_first, ← chunkDone, List.length_take, Nat.min_eq_left hn] at hgoes
  rw [writeLoop, if_neg (by omega), hgoes, ok_bind, (betweenChunks_chunkDone hbetween).settings.profile]

theorem writeLoop_nothing_left (buffer fuel cur bo n : Nat) (s : State) : writeLoop buffer fuel cur 0 bo n s = .ok s := by
  cases fuel <;> rfl

/-- With nothing left to write the loop is over. -/
theorem writeLoop_nil_returns (hbetween : BetweenChunks s u) :
    (writeLoop buffer fuel cur ([] : List Byte).length bo n u >>= fun w => .ok (complete 1 w)) =
      .ok (complete 1 (setChip .idle (afterEvents (writeOutputs s cur (buffer + bo) []) u))) := by
  have hnone : writeOutputs s cur (buffer + bo) [] = [] := rfl
  rw [List.length_nil, writeLoop_nothing_left, ok_bind, hnone, afterEvents_nil, setChip_self hbetween.idle]

/-- `WRITE` from its loop on programs the chunks of what is left, in order, and returns (41 R151). -/
theorem writeLoop_returns (hbetween : BetweenChunks s u) (hram : RamHolds s (buffer + bo) data) (h : AnswersOk u)
    (hp : 0 < s.profile.pageSizeBytes) (hfuel : data.length ≤ fuel) :
    (writeLoop buffer fuel cur data.length bo (firstChunk s.profile.pageSizeBytes cur data.length) u >>= fun w =>
        .ok (complete 1 w)) =
      .ok (complete 1 (setChip .idle (afterEvents (writeOutputs s cur (buffer + bo) data) u))) := by
  induction fuel generalizing cur bo data u with
  | zero =>
    obtain rfl : data = [] := List.eq_nil_of_length_eq_zero (by omega)
    exact writeLoop_nil_returns hbetween
  | succ fuel ih =>
    rcases Nat.eq_zero_or_pos data.length with hnil | hpos
    · obtain rfl : data = [] := List.eq_nil_of_length_eq_zero hnil
      exact writeLoop_nil_returns hbetween
    · obtain ⟨hn0, hn, -⟩ := firstChunk_bounds (cur := cur) hp hpos
      rw [writeLoop_chunk_ok hbetween hram h hn0 hn, firstChunk_next hp, writeOutputs, pageChunks_cons hp hpos]
      generalize firstChunk s.profile.pageSizeBytes cur data.length = n at *
      have hrest : RamHolds s (buffer + (bo + n)) (data.drop n) := by
        rw [← Nat.add_assoc]
        exact ramHolds_drop hram n
      have hlater : ∀ c ∈ pageChunks s.profile.pageSizeBytes (cur + n) (data.drop n).length,
          chunkOutputs s (cur + n) (buffer + (bo + n)) (data.drop n) c = chunkOutputs s cur (buffer + bo) data c :=
        fun c hc => chunkOutputs_drop (le_of_mem_pageChunks hc)
      have hlength : (data.drop n).length = data.length - n := List.length_drop
      rw [← hlength, ih (betweenChunks_chunkDone hbetween) hrest (answersOk_chunkDone h) (by omega), complete_chunkDone,
        writeOutputs, List.flatMap_congr hlater, List.flatMap_cons]

end

/-! ### The command -/

section
variable {s : State} {address size buffer : Word}

/-- `WRITE` admitted with its operands in range: `DisableMemoryMap`, the loop, `return` (41 R151). -/
theorem exec_write_eq_loop (hc : s.chipState = .configured ∨ s.chipState = .idle ∨ s.chipState = .memoryMapped)
    (h : AnswersOk s) (hrange : ¬ operandsOutOfRange s (.write address size buffer)) :
    exec (.write address size buffer) s = finish (
      writeLoop buffer.toNat size.toNat (toOffset s address) size.toNat 0
        (firstChunk s.profile.pageSizeBytes (toOffset s address) size.toNat)
        (setWriteCursor ⟨toOffset s address, size.toNat, 0⟩ (setChip .idle (afterEvents [.bus .disableMemoryMap] s)))
      >>= fun w => .ok (complete 1 w)) := by
  rw [exec, execWrite, runCommand_admitted (admission_anyMode hc)]
  dsimp only
  rw [requireRange_ok ((writeInRange_iff s address size buffer).mpr hrange), ok_bind, doMapDisable_ok h, ok_bind]
  rfl

/-- The loop is entered between chunks. -/
theorem betweenChunks_entered (s : State) (w : WriteCursor) :
    BetweenChunks s (setWriteCursor w (setChip .idle (afterEvents [.bus .disableMemoryMap] s))) :=
  ⟨⟨rfl, rfl, rfl⟩, rfl, rfl⟩

theorem answersOk_entered (h : AnswersOk s) (w : WriteCursor) :
    AnswersOk (setWriteCursor w (setChip .idle (afterEvents [.bus .disableMemoryMap] s))) :=
  afterEvents_answersOk [.bus .disableMemoryMap] h

end

/-! ### The statements -/

/-- Settles O47: the loop goes on after every chunk, and its outputs follow the `DisableMemoryMap`. -/
theorem writeCompletes : Obligations.WriteCompletes := by
  unfold Obligations.WriteCompletes
  intro s address size buffer data hc h hp hrange hlen hram
  have hloop := writeLoop_returns (buffer := buffer.toNat) (bo := 0) (cur := toOffset s address)
    (betweenChunks_entered s ⟨toOffset s address, size.toNat, 0⟩) hram (answersOk_entered h _) hp (Nat.le_refl _)
  rw [hlen, Nat.add_zero] at hloop
  rw [exec_write_eq_loop hc h hrange, hloop, afterEvents_setWriteCursor, afterEvents_setChip, ← afterEvents_append]
  rfl

/-- Settles O49: with nothing to write the loop is over before its first chunk, whatever the page size. -/
theorem emptyWriteOnlyDisables : Obligations.EmptyWriteOnlyDisables := by
  unfold Obligations.EmptyWriteOnlyDisables
  intro s address buffer hc h hrange
  have hsize : (0 : Word).toNat = 0 := rfl
  rw [exec_write_eq_loop hc h hrange, hsize, writeLoop_nothing_left]
  rfl

end Sys2Proof.Machine

/-! PROOF. The chunks of a `WRITE` split its range at the page boundaries (41 R152): by induction along the chunks what
their lengths add up to, and by the place of each piece its alignment and length. -/

namespace Sys2Proof.Machine

section
variable {page off size j : Nat} {c : Nat × Nat}

/-! ### Along the chunks -/

/-- An empty range, or a first chunk and then the chunks of the rest. -/
theorem pageChunks_induction (hp : 0 < page) {motive : Nat → Nat → Prop} (empty : ∀ off, motive off 0)
    (chunk : ∀ off size, 0 < size →
      motive (off + firstChunk page off size) (size - firstChunk page off size) → motive off size)
    (off size : Nat) : motive off size := by
  induction size using Nat.strong_induction_on generalizing off with
  | _ size ih =>
    rcases Nat.eq_zero_or_pos size with rfl | hpos
    · exact empty off
    · obtain ⟨hn0, hn, -⟩ := firstChunk_bounds (cur := off) hp hpos
      exact chunk off size hpos (ih _ (by omega) _)

theorem pageChunks_zero (page off : Nat) : pageChunks page off 0 = [] := if_pos rfl

/-- No chunk is empty, and none crosses a page boundary. -/
theorem pageChunks_inPage (hp : 0 < page) (off size : Nat) :
    ∀ c ∈ pageChunks page off size, 1 ≤ c.2 ∧ c.1 % page + c.2 ≤ page := by
  induction off, size using pageChunks_induction hp with
  | empty off => simp [pageChunks_zero]
  | chunk off size hpos ih =>
    obtain ⟨hn0, -, hinPage⟩ := firstChunk_bounds (cur := off) hp hpos
    rw [pageChunks_cons hp hpos]
    exact List.forall_mem_cons.mpr ⟨⟨hn0, hinPage⟩, ih⟩

theorem pageChunks_sum (hp : 0 < page) (off size : Nat) : ((pageChunks page off size).map Prod.snd).sum = size := by
  induction off, size using pageChunks_induction hp with
  | empty off => rw [pageChunks_zero]; rfl
  | chunk off size hpos ih =>
    obtain ⟨-, hn, -⟩ := firstChunk_bounds (cur := off) hp hpos
    rw [pageChunks_cons hp hpos, List.map_cons, List.sum_cons, ih]
    exact Nat.add_sub_cancel' hn

/-- Each chunk begins where those before it end. -/
theorem pageChunks_start (hp : 0 < page) (h : (pageChunks page off size)[j]? = some c) :
    c.1 = off + (((pageChunks page off size).take j).map Prod.snd).sum := by
  induction j generalizing off size with
  | zero =>
    rw [pageChunks_cons hp (pos_of_pageChunks h), List.getElem?_cons_zero, Option.some.injEq] at h
    rw [← h]
    rfl
  | succ j ih =>
    have hpos := pos_of_pageChunks h
    rw [pageChunks_cons hp hpos, List.getElem?_cons_succ] at h
    rw [pageChunks_cons hp hpos, ih h, List.take_succ_cons, List.map_cons, List.sum_cons, Nat.add_assoc]

/-! ### One by one -/

theorem length_pageChunks (page off size : Nat) :
    (pageChunks page off size).length = if size = 0 then 0 else (off % page + size + page - 1) / page := by
  unfold pageChunks
  split <;> simp

theorem pageChunks_getElem? (h : (pageChunks page off size)[j]? = some c) : c = pagePiece page off size j := by
  rw [pageChunks_eq_map (pos_of_pageChunks h)] at h
  simp only [List.getElem?_map, Option.map_eq_some_iff, List.getElem?_eq_some_iff, List.getElem_range] at h
  obtain ⟨_, ⟨-, rfl⟩, rfl⟩ := h
  rfl

/-- A piece past the first begins at a page boundary. -/
theorem pagePiece_aligned (hp : 0 < page) (hj : 1 ≤ j) :
    pagePiece page off size j =
      ((off / page + j) * page, min (off + size) ((off / page + j) * page + page) - (off / page + j) * page) := by
  have hend := page_end_eq (off := off) hp
  have hle : (off / page + 1) * page ≤ (off / page + j) * page := Nat.mul_le_mul_right _ (by omega)
  rw [pagePiece, max_eq_right (by omega), Nat.succ_mul]

/-- The page of every piece but the last ends inside the range. -/
theorem page_end_le (hj : j + 1 < (pageChunks page off size).length) : (off / page + j) * page + page ≤ off + size := by
  have hpos : 0 < size := Nat.pos_of_ne_zero fun hs => by rw [length_pageChunks, if_pos hs] at hj; cases hj
  rw [length_pageChunks, if_neg (by omega)] at hj
  have hcount : (j + 2) * page ≤ off % page + size + page - 1 := Nat.mul_le_of_le_div _ _ _ hj
  have hdiv := Nat.div_add_mod' off page
  rw [Nat.add_mul] at hcount ⊢
  omega

theorem pageChunks_aligned (hp : 0 < page) (h : (pageChunks page off size)[j]? = some c) (hj : 1 ≤ j) :
    c.1 % page = 0 := by
  rw [pageChunks_getElem? h, pagePiece_aligned hp hj]
  exact Nat.mul_mod_left _ _

theorem pageChunks_full (hp : 0 < page) (h : (pageChunks page off size)[j]? = some c) (hj : 1 ≤ j)
    (hlast : j + 1 < (pageChunks page off size).length) : c.2 = page := by
  rw [pageChunks_getElem? h, pagePiece_aligned hp hj, min_eq_right (page_end_le hlast)]
  exact Nat.add_sub_cancel_left _ _

/-- The laws of 41 R152. -/
theorem pageChunks_isPageSplit (hp : 0 < page) (off size : Nat) :
    IsPageSplit page off size (pageChunks page off size) :=
  ⟨pageChunks_inPage hp off size, pageChunks_sum hp off size, fun _ _ h => pageChunks_start hp h,
    fun _ _ h hj => pageChunks_aligned hp h hj, fun _ _ h hj hlast => pageChunks_full hp h hj hlast,
    length_pageChunks page off size⟩

end

/-! ### The statement -/

/-- Settles O48: `WRITE` completes with the outputs of the chunks that `pageChunks` lists. -/
theorem writeIsAPageSplit : Obligations.WriteIsAPageSplit := by
  unfold Obligations.WriteIsAPageSplit
  intro s address size buffer data hc h hp hrange hlen hram
  refine ⟨_, pageChunks_isPageSplit hp _ _, _, writeCompletes s address size buffer data hc h hp hrange hlen hram, ?_⟩
  rw [complete_trace, setChip_trace, afterEvents_frame, List.reverse_append, List.reverse_reverse, writeOutputs, hlen]
  rfl

end Sys2Proof.Machine

/-! PROOF. `Checksum` as the sum of the bytes of its range (42 R170, R171, R175, R176): the word loop carries the sum of
the bytes below its word, and goes on exactly when the aligned cover of the range can be read. -/

namespace Sys2Proof.Machine

/-! ### The sum so far -/

/-- The sum of the bytes of `[start, stop)` below address `a`: what the word loop has added when it comes to `a`. -/
def sumBelow (m : Nat → Byte) (start stop : Nat) (seed : Word) (a : Nat) : Word :=
  byteSum m start (min a stop - start) seed

section
variable {m : Nat → Byte} {start stop a w : Nat} {seed : Word}

theorem byteSum_zero (m : Nat → Byte) (start : Nat) (seed : Word) : byteSum m start 0 seed = seed := rfl

theorem byteSum_succ (m : Nat → Byte) (start size : Nat) (seed : Word) :
    byteSum m start (size + 1) seed = byteSum m start size seed + (m (start + size)).setWidth 32 := by
  simp [byteSum, List.range_succ]

/-- A range can be summed in two pieces (42 R176). -/
theorem byteSum_add (m : Nat → Byte) (start n k : Nat) (seed : Word) :
    byteSum m start (n + k) seed = byteSum m (start + n) k (byteSum m start n seed) := by
  simp [byteSum, List.range_add, List.foldl_map, Nat.add_assoc]

/-- Before the range nothing has been added. -/
theorem sumBelow_of_le (h : a ≤ start) : sumBelow m start stop seed a = seed := by
  rw [sumBelow, Nat.sub_eq_zero_of_le (le_trans (min_le_left a stop) h), byteSum_zero]

/-- Past the range every byte has been added. -/
theorem sumBelow_of_ge (h : stop ≤ a) : sumBelow m start stop seed a = byteSum m start (stop - start) seed := by
  rw [sumBelow, min_eq_right h]

/-- One address further, the byte inside the range is added. -/
theorem sumBelow_succ : sumBelow m start stop seed (a + 1) =
    sumBelow m start stop seed a + if start ≤ a ∧ a < stop then (m a).setWidth 32 else 0 := by
  unfold sumBelow
  split
  case isTrue h =>
    have hsize : min (a + 1) stop - start = min a stop - start + 1 := by omega
    have hlast : start + (min a stop - start) = a := by omega
    rw [hsize, byteSum_succ, hlast]
  case isFalse h =>
    have hsize : min (a + 1) stop - start = min a stop - start := by omega
    rw [hsize]
    exact (BitVec.add_zero _).symm

/-- The little-endian word at `w` (20 R51). -/
def wordOf (m : Nat → Byte) (w : Nat) : Word := m (w + 3) ++ m (w + 2) ++ m (w + 1) ++ m w

theorem byteOfWord_wordOf {b : Nat} (h : b < 4) : byteOfWord (wordOf m w) b = m (w + b) := by
  have hb : b = 0 ∨ b = 1 ∨ b = 2 ∨ b = 3 := by omega
  rw [byteOfWord, wordOf]
  rcases hb with rfl | rfl | rfl | rfl
  · exact BitVec.extractLsb'_append_eq_right
  · rw [BitVec.extractLsb'_append_eq_of_le (by decide)]
    exact BitVec.extractLsb'_append_eq_right
  · iterate 2 rw [BitVec.extractLsb'_append_eq_of_le (by decide)]
    exact BitVec.extractLsb'_append_eq_right
  · iterate 3 rw [BitVec.extractLsb'_append_eq_of_le (by decide)]
    exact BitVec.extractLsb'_eq_self

/-- One word further, its bytes inside the range are added (42 R170). -/
theorem sumBelow_word : sumBelow m start stop seed (w + 4) =
    sumBelow m start stop seed w + wordSum start stop w (wordOf m w) := by
  have hbyte {b : Nat} (hb : b < 4) : summand start stop w (wordOf m w) b =
      if start ≤ w + b ∧ w + b < stop then (m (w + b)).setWidth 32 else 0 := by
    rw [summand, byteOfWord_wordOf hb]
  rw [wordSum, hbyte (by decide), hbyte (by decide), hbyte (by decide), hbyte (by decide), sumBelow_succ (a := w + 3),
    sumBelow_succ (a := w + 2), sumBelow_succ (a := w + 1), sumBelow_succ (a := w)]
  simp only [BitVec.add_assoc, Nat.add_zero]

end

/-! ### The words of a range -/

/-- `n` words in a row, read from `w` on. -/
def wordRow (w n : Nat) : List Event := (List.range n).map fun j => Event.memRead (w + 4 * j) 4

theorem wordRow_succ (w n : Nat) : wordRow w (n + 1) = .memRead w 4 :: wordRow (w + 4) n := by
  simp [wordRow, List.range_succ_eq_map, Function.comp_def, Nat.mul_add, Nat.add_assoc, Nat.add_comm 4]

/-- The number of words that `Checksum` counts out: the skips and the range fill them (10 R30, 42 R170). -/
theorem wordReads_eq_wordRow {start size : Nat} (hs : size ≠ 0) :
    wordReads start size =
      wordRow (start - headSkipOf start) ((headSkipOf start + size + tailSkipOf start size) / 4) := by
  have hcount : (start % 4 + size + 3) / 4 = (headSkipOf start + size + tailSkipOf start size) / 4 := by
    unfold headSkipOf tailSkipOf
    omega
  rw [wordReads, if_neg hs, hcount]
  rfl

/-- The words end where the aligned cover of the range ends (20 R53). -/
theorem cover_end_eq (start size : Nat) :
    start - headSkipOf start + 4 * ((headSkipOf start + size + tailSkipOf start size) / 4) =
      start + size + tailSkipOf start size := by
  unfold headSkipOf tailSkipOf
  omega

/-! ### The accumulator -/

/-- The state with its `ChecksumAccumulator` replaced: all that distinguishes the states of a `Checksum` besides the
trace (10 R30). -/
def leaveAcc (c : Option ChecksumAccumulator) (s : State) : State := { s with checksumAcc := c }

@[simp] theorem leaveAcc_leaveAcc (c c' : Option ChecksumAccumulator) (s : State) :
    leaveAcc c (leaveAcc c' s) = leaveAcc c s := rfl

theorem afterEvents_leaveAcc (es : List Event) (c : Option ChecksumAccumulator) (s : State) :
    afterEvents es (leaveAcc c s) = leaveAcc c (afterEvents es s) := by
  induction es generalizing s with
  | nil => rfl
  | cons e es ih =>
    cases e with
    | bus t => exact ih (afterEvent s (.bus t))
    | memRead a n => exact ih (afterEvent s (.memRead a n))

/-- `return` drops the accumulator. -/
@[simp] theorem complete_leaveAcc (v : DWord) (c : Option ChecksumAccumulator) (s : State) :
    complete v (leaveAcc c s) = complete v s := rfl

/-! ### The word loop -/

section
variable {u : State} {m : Nat → Byte} {start stop n w : Nat} {seed : Word}

theorem readWord_ok (h : ∀ a, w ≤ a → a < w + 4 → memByte u a = .ok (m a)) :
    readWord w u = .ok (wordOf m w, logRead w 4 u) := by
  have hword : memWord u w = .ok (wordOf m w) :=
    memWord_of_bytes (h w (by omega) (by omega)) (h (w + 1) (by omega) (by omega)) (h (w + 2) (by omega) (by omega))
      (h (w + 3) (by omega) (by omega))
  rw [readWord, hword]

/-- One word of the loop: the accumulator of the words before it is left, the word is read and its bytes are added. -/
theorem checksumLoop_word (acc : ChecksumAccumulator) (h : ∀ a, w ≤ a → a < w + 4 → memByte u a = .ok (m a)) :
    checksumLoop start stop (n + 1) w acc u =
      checksumLoop start stop n (w + 4) { acc with sum := acc.sum + wordSum start stop w (wordOf m w) }
        (leaveAcc (some acc) (afterEvent u (.memRead w 4))) := by
  have hread : readWord w (setChecksumAcc acc u) = .ok (wordOf m w, logRead w 4 (setChecksumAcc acc u)) := readWord_ok h
  rw [checksumLoop, hread]
  rfl

/-- The loop over words that can be read adds their bytes inside the range. -/
theorem checksumLoop_ok (head tail : Nat) (h : ∀ a, w ≤ a → a < w + 4 * n → memByte u a = .ok (m a)) :
    ∃ c, checksumLoop start stop n w ⟨sumBelow m start stop seed w, head, tail⟩ u =
      .ok (⟨sumBelow m start stop seed (w + 4 * n), head, tail⟩, leaveAcc c (afterEvents (wordRow w n) u)) := by
  induction n generalizing w u with
  | zero => exact ⟨u.checksumAcc, rfl⟩
  | succ n ih =>
    have hword : ∀ a, w ≤ a → a < w + 4 → memByte u a = .ok (m a) := fun a hlo hhi => h a hlo (by omega)
    have hend : w + 4 + 4 * n = w + 4 * (n + 1) := by omega
    obtain ⟨c, hloop⟩ := ih (w := w + 4) (u := leaveAcc (some ⟨sumBelow m start stop seed w, head, tail⟩)
      (afterEvent u (.memRead w 4))) fun a hlo hhi => h a (by omega) (by omega)
    rw [sumBelow_word, hend, afterEvents_leaveAcc, leaveAcc_leaveAcc, ← afterEvents_cons, ← wordRow_succ] at hloop
    exact ⟨c, (checksumLoop_word _ hword).trans hloop⟩

/-- `Checksum` of a range whose aligned cover can be read (42 R170, R175). -/
theorem doChecksum_ok {size : Nat} (h : size ≠ 0 → CoverReads u start size m) :
    ∃ c, doChecksum start size seed u =
      .ok (byteSum m start size seed, leaveAcc c (afterEvents (wordReads start size) u)) := by
  rcases eq_or_ne size 0 with rfl | hs
  · exact ⟨u.checksumAcc, rfl⟩
  · have hcover : ∀ a, start - headSkipOf start ≤ a → a < start - headSkipOf start +
        4 * ((headSkipOf start + size + tailSkipOf start size) / 4) → memByte u a = .ok (m a) := by
      rw [cover_end_eq]
      exact h hs
    obtain ⟨c, hloop⟩ := checksumLoop_ok (start := start) (stop := start + size) (seed := seed) (headSkipOf start)
      (tailSkipOf start size) hcover
    rw [sumBelow_of_le (Nat.sub_le _ _), cover_end_eq, sumBelow_of_ge (Nat.le_add_right _ _), Nat.add_sub_cancel_left,
      ← wordReads_eq_wordRow hs] at hloop
    refine ⟨some ⟨byteSum m start size seed, headSkipOf start, tailSkipOf start size⟩, ?_⟩
    rw [doChecksum, if_neg hs]
    dsimp only
    rw [hloop]
    rfl

end

/-! ### What a `Checksum` that goes on has read -/

/-- The byte at an address, 0 where there is none. -/
def byteAt (s : State) (a : Nat) : Byte :=
  match memByte s a with
  | .ok b => b
  | .error _ => 0

section
variable {Q : ErrKind → State → Prop} {R : State → Prop} {s u : State} {start stop n w : Nat} {seed : Word}

theorem memByte_byteAt {a : Nat} {b : Byte} (h : memByte s a = .ok b) : memByte s a = .ok (byteAt s a) := by
  rw [byteAt, h]

/-- A `MemRead` that goes on after another: both had a value. -/
theorem exists_of_bind_ok {ε α β : Type} {x : Except ε α} {f : α → Except ε β} {b : β} (h : x >>= f = .ok b) :
    ∃ a, x = .ok a ∧ f a = .ok b := by
  cases x with
  | error e => cases h
  | ok a => exact ⟨a, rfl, h⟩

/-- A word that reads has four bytes that read. -/
theorem bytes_of_memWord {a : Nat} {x : Word} (h : memWord s w = .ok x) (hlo : w ≤ a) (hhi : a < w + 4) :
    memByte s a = .ok (byteAt s a) := by
  obtain ⟨_, h0, h⟩ := exists_of_bind_ok h
  obtain ⟨_, h1, h⟩ := exists_of_bind_ok h
  obtain ⟨_, h2, h⟩ := exists_of_bind_ok h
  obtain ⟨_, h3, -⟩ := exists_of_bind_ok h
  have ha : a = w ∨ a = w + 1 ∨ a = w + 2 ∨ a = w + 3 := by omega
  rcases ha with rfl | rfl | rfl | rfl
  exacts [memByte_byteAt h0, memByte_byteAt h1, memByte_byteAt h2, memByte_byteAt h3]

/-- A word loop that goes on has read every byte of its words. -/
theorem checksumLoop_covers (acc : ChecksumAccumulator) :
    Ends (fun _ => ∀ a, w ≤ a → a < w + 4 * n → memByte u a = .ok (byteAt u a)) Q R
      (checksumLoop start stop n w acc u) := by
  induction n generalizing w acc u with
  | zero => exact fun a hlo hhi => by omega
  | succ n ih =>
    refine ends_bind (M := fun r => r.2 = logRead w 4 (setChecksumAcc acc u) ∧
      ∀ a, w ≤ a → a < w + 4 → memByte u a = .ok (byteAt u a)) ?_ ?_
    · exact readWord_ends fun x hx => ⟨rfl, fun a hlo hhi => bytes_of_memWord (s := u) hx hlo hhi⟩
    · rintro ⟨x, v⟩ ⟨rfl, hword⟩
      refine ends_mono (ih _) (fun _ hrest a hlo hhi => ?_) (fun _ _ h => h) fun _ h => h
      by_cases ha : a < w + 4
      · exact hword a hlo ha
      · exact hrest a (by omega) (by omega)

/-- The range of a `Checksum` that goes on has a readable cover. -/
theorem coverReads_of_doChecksum {size : Nat} {x : Word} {t : State} (h : doChecksum start size seed s = .ok (x, t))
    (hs : size ≠ 0) : CoverReads s start size (byteAt s) := by
  have hends : Ends (fun _ => CoverReads s start size (byteAt s)) (fun _ _ => True) (fun _ => True)
      (doChecksum start size seed s) := by
    rw [doChecksum, if_neg hs]
    refine ends_bind (checksumLoop_covers _) fun r hr => ?_
    rw [cover_end_eq] at hr
    exact hr
  rwa [h] at hends

/-- Two adjacent covers are the cover of both ranges; where one range is empty, the other's cover is. -/
theorem coverReads_add {m : Nat → Byte} {a n k : Nat} (hn : n ≠ 0 → CoverReads s a n m)
    (hk : k ≠ 0 → CoverReads s (a + n) k m) (h : n + k ≠ 0) : CoverReads s a (n + k) m := by
  intro x hlo hhi
  unfold tailSkipOf at hhi
  by_cases hx : n ≠ 0 ∧ x < a + n + tailSkipOf a n
  · exact hn hx.1 x hlo hx.2
  · unfold tailSkipOf at hx
    have hrest : x < a + n + k + tailSkipOf (a + n) k := by unfold tailSkipOf; omega
    exact hk (by omega) x (by omega) hrest

end

/-! ### The statements -/

/-- Settles O51: both pieces read the bytes of `s`, so that their sums add up to the byte sum of the whole range. -/
theorem checksumAdditive : Obligations.ChecksumAdditive := by
  unfold Obligations.ChecksumAdditive
  intro s s1 s2 a n k seed x y h1 h2
  have hn := coverReads_of_doChecksum h1
  have hk := coverReads_of_doChecksum h2
  obtain ⟨_, hx⟩ := doChecksum_ok (seed := seed) hn
  obtain ⟨_, hy⟩ := doChecksum_ok (seed := x) hk
  obtain ⟨_, hxy⟩ := doChecksum_ok (seed := seed) (coverReads_add hn hk)
  cases h1.symm.trans hx
  cases h2.symm.trans hy
  exact ⟨_, byteSum_add (byteAt s) a n k seed ▸ hxy⟩

/-- The two ways into the reads: mapped already, or an `Ok` answer to the mapping transaction. -/
theorem mapEntered_admitted {s : State}
    (h : s.chipState = .memoryMapped ∨ (s.chipState = .configured ∨ s.chipState = .idle) ∧ AnswersOk s) :
    admission .anyMode s.chipState = .admitted ∧ doMapEnable s = .ok (mapEntered s) :=
  ⟨admission_anyMode (by tauto), doMapEnable_ok (h.imp_right And.right)⟩

/-- Settles O50: once the flash is mapped, `Checksum` reads the words of the range and sums its bytes. -/
theorem checksumCompletes : Obligations.ChecksumCompletes := by
  unfold Obligations.ChecksumCompletes
  intro s start size seed m hc hrange hcover
  obtain ⟨hadmitted, hmap⟩ := mapEntered_admitted hc
  have hsize : size.toNat ≠ 0 → CoverReads (mapEntered s) start.toNat size.toNat m :=
    fun h => hcover fun h0 => h (congrArg BitVec.toNat h0)
  obtain ⟨c, hsum⟩ := doChecksum_ok (seed := seed) hsize
  refine (runCommand_inRange (check := fun _ => checksumInRange start size) hadmitted
    ((checksumInRange_iff s start size seed).mpr hrange)).trans ?_
  rw [hmap, ok_bind, hsum, ok_bind]
  rfl

end Sys2Proof.Machine

/-! PROOF. The compare of `VERIFY` (42 R173, R174, R177): it passes over the pairs that agree, and stops right after the
first that does not; with the checksum before it, the whole command. -/

namespace Sys2Proof.Machine

/-! ### Reads -/

/-- Reads leave nothing but themselves in the trace. -/
theorem afterEvents_reads {es : List Event} (h : ∀ e ∈ es, isBusEvent e = false) (s : State) :
    afterEvents es s = { s with trace := es.reverse ++ s.trace } := by
  induction es generalizing s with
  | nil => rfl
  | cons e es ih =>
    obtain ⟨he, hes⟩ := List.forall_mem_cons.mp h
    cases e with
    | bus t => cases he
    | memRead a n =>
      rw [afterEvents_cons, ih hes, List.reverse_cons, List.append_assoc]
      rfl

theorem wordReads_are_reads (start size : Nat) : ∀ e ∈ wordReads start size, isBusEvent e = false := by
  unfold wordReads
  split <;> simp [isBusEvent]

theorem pairReads_are_reads (flash ram n : Nat) : ∀ e ∈ pairReads flash ram n, isBusEvent e = false := by
  simp only [pairReads, List.mem_flatMap, List.mem_cons, List.not_mem_nil, or_false]
  rintro e ⟨k, -, rfl | rfl⟩ <;> rfl

theorem pairReads_succ (flash ram n : Nat) :
    pairReads flash ram (n + 1) = pairReads flash ram n ++ [.memRead (flash + n) 1, .memRead (ram + n) 1] := by
  simp [pairReads, List.range_succ]

section
variable {s u : State} {base size : Nat} {m : Nat → Byte}

/-- A read changes no memory. -/
theorem rangeReads_afterEvents {es : List Event} (hes : ∀ e ∈ es, isBusEvent e = false) (h : RangeReads s base size m) :
    RangeReads (afterEvents es s) base size m := by
  rw [afterEvents_reads hes]
  exact h

theorem rangeReads_of_le {n : Nat} (h : RangeReads s base size m) (hn : n ≤ size) : RangeReads s base n m :=
  fun k hk => h k (Nat.lt_of_lt_of_le hk hn)

end

/-! ### The compare loop -/

section
variable {s u : State} {flash ram n k : Nat} {m : Nat → Byte}

/-- One pair: the loop goes on when the bytes agree, and answers the flash address when they differ (42 R177). -/
theorem compareLoop_pair (n : Nat) (hf : memByte u flash = .ok (m flash)) (hr : memByte u ram = .ok (m ram)) :
    compareLoop (n + 1) flash ram u =
      if m flash = m ram then
        compareLoop n (flash + 1) (ram + 1) (afterEvents [.memRead flash 1, .memRead ram 1] u)
      else .ok (some flash, afterEvents [.memRead flash 1, .memRead ram 1] u) := by
  have hr' : memByte (logRead flash 1 u) ram = .ok (m ram) := hr
  have hflash : readByte flash u = .ok (m flash, logRead flash 1 u) := by rw [readByte, hf]
  have hram : readByte ram (logRead flash 1 u) = .ok (m ram, logRead ram 1 (logRead flash 1 u)) := by rw [readByte, hr']
  rw [compareLoop, hflash, ok_bind]
  dsimp only
  rw [hram]
  rfl

/-- The loop passes over `k` pairs that agree. -/
theorem compareLoop_passes (n : Nat) (hf : RangeReads u flash k m) (hr : RangeReads u ram k m)
    (heq : ∀ j, j < k → m (flash + j) = m (ram + j)) :
    compareLoop (k + n) flash ram u = compareLoop n (flash + k) (ram + k) (afterEvents (pairReads flash ram k) u) := by
  induction k generalizing n with
  | zero => rw [Nat.zero_add]; rfl
  | succ k ih =>
    have hreads := pairReads_are_reads flash ram k
    have hpass := ih (n + 1) (rangeReads_of_le hf (Nat.le_succ k)) (rangeReads_of_le hr (Nat.le_succ k))
      fun j hj => heq j (Nat.lt_succ_of_lt hj)
    have hk := Nat.lt_succ_self k
    rw [Nat.succ_add, ← Nat.add_succ, hpass, compareLoop_pair n (rangeReads_afterEvents hreads hf k hk)
      (rangeReads_afterEvents hreads hr k hk), if_pos (heq k hk), ← afterEvents_append, ← pairReads_succ]
    rfl

/-- Regions that agree. -/
theorem compareLoop_equal (hf : RangeReads u flash n m) (hr : RangeReads u ram n m)
    (heq : ∀ j, j < n → m (flash + j) = m (ram + j)) :
    compareLoop n flash ram u = .ok (none, afterEvents (pairReads flash ram n) u) :=
  compareLoop_passes 0 hf hr heq

/-- Regions that first differ at offset `k`. -/
theorem compareLoop_differs (hk : k < n) (hf : RangeReads u flash (k + 1) m) (hr : RangeReads u ram (k + 1) m)
    (heq : ∀ j, j < k → m (flash + j) = m (ram + j)) (hne : m (flash + k) ≠ m (ram + k)) :
    compareLoop n flash ram u = .ok (some (flash + k), afterEvents (pairReads flash ram (k + 1)) u) := by
  obtain ⟨r, rfl⟩ : ∃ r, n = k + (r + 1) := ⟨n - k - 1, by omega⟩
  have hreads := pairReads_are_reads flash ram k
  have hk' := Nat.lt_succ_self k
  rw [compareLoop_passes (r + 1) (rangeReads_of_le hf hk'.le) (rangeReads_of_le hr hk'.le) heq,
    compareLoop_pair r (rangeReads_afterEvents hreads hf k hk') (rangeReads_afterEvents hreads hr k hk'), if_neg hne,
    ← afterEvents_append, ← pairReads_succ]

end

/-! ### The command -/

/-- `return` drops the accumulator also after a compare. -/
theorem verifyEnd_leaveAcc (ck : Word) (at? : Option Nat) (c : Option ChecksumAccumulator) (s : State) :
    verifyEnd ck at? (leaveAcc c s) = verifyEnd ck at? s := by
  cases at? <;> rfl

section
variable {s : State} {flash ram count : Word} {head tail : BitVec 4} {m : Nat → Byte}

/-- `VERIFY` admitted with its operands in range: the checksum, and then the compare in memory that the reads have not
changed. -/
theorem exec_verify_returns {at? : Option Nat} {k : Nat}
    (hc : s.chipState = .memoryMapped ∨ (s.chipState = .configured ∨ s.chipState = .idle) ∧ AnswersOk s)
    (hrange : ¬ operandsOutOfRange s (.verify flash ram count head tail)) :
    let size := 4 * count.toNat
    let from_ := flash.toNat + head.toNat
    let n := size - tail.toNat
    (n ≠ 0 → CoverReads (mapEntered s) from_ n m) →
    RangeReads (mapEntered s) flash.toNat k m → RangeReads (mapEntered s) ram.toNat k m →
    (∀ u, RangeReads u flash.toNat k m → RangeReads u ram.toNat k m →
      compareLoop size flash.toNat ram.toNat u = .ok (at?, afterEvents (pairReads flash.toNat ram.toNat k) u)) →
    exec (.verify flash ram count head tail) s =
      .next (verifyEnd (byteSum m from_ n 0) at?
        (afterEvents (wordReads from_ n ++ pairReads flash.toNat ram.toNat k) (mapEntered s))) := by
  intro size from_ n hcover hf hr hcompare
  obtain ⟨hadmitted, hmap⟩ := mapEntered_admitted hc
  obtain ⟨c, hsum⟩ := doChecksum_ok (seed := 0) hcover
  have hreads := wordReads_are_reads from_ n
  have hpairs := hcompare (leaveAcc c (afterEvents _ (mapEntered s))) (rangeReads_afterEvents hreads hf)
    (rangeReads_afterEvents hreads hr)
  rw [afterEvents_leaveAcc, ← afterEvents_append] at hpairs
  refine (runCommand_inRange (check := fun _ => verifyInRange flash ram count head tail) hadmitted
    ((verifyInRange_iff s flash ram count head tail).mpr hrange)).trans ?_
  rw [hmap, ok_bind, hsum, ok_bind]
  dsimp only
  rw [hpairs, ok_bind]
  exact congrArg Host.Outcome.next (verifyEnd_leaveAcc _ _ _ _)

end

/-! ### The statements -/

/-- Settles O52: the compare comes to the end of both regions. -/
theorem verifyEqualCompletes : Obligations.VerifyEqualCompletes := by
  unfold Obligations.VerifyEqualCompletes
  intro s flash ram count head tail m hc hrange size from_ n hcover hf hr heq
  exact exec_verify_returns hc hrange hcover hf hr fun _ hf' hr' => compareLoop_equal hf' hr' heq

/-- Settles O53: the compare stops right after the pair at `k`, and needs no byte past it. -/
theorem verifyReportsFirstMismatch : Obligations.VerifyReportsFirstMismatch := by
  unfold Obligations.VerifyReportsFirstMismatch
  intro s flash ram count head tail m k hc hrange size from_ n hcover hk hf hr heq hne
  exact exec_verify_returns hc hrange hcover hf hr fun _ hf' hr' => compareLoop_differs hk hf' hr' heq hne

end Sys2Proof.Machine

/-! PROOF. What `CHECKSUM` and `VERIFY` leave alone, and who sets `MISMATCH` (10 R31; 42 R173, R179): one mapping
transaction at most and then reads; no other command has a `MISMATCH` to set. -/

namespace Sys2Proof.Machine

/-! ### One mapping transaction at most -/

/-- The device's array as it was, and at most one transaction more. -/
def MapsOnce (s u : State) : Prop := u.dev.flash = s.dev.flash ∧ u.txCount ≤ s.txCount + 1

section
variable {s t u v : State}

theorem mapsOnce_refl (s : State) : MapsOnce s s := ⟨rfl, Nat.le_succ _⟩

theorem mapsOnce_of_reads (h : MapsOnce s u) (hr : Acts .read u v) : MapsOnce s v := by
  rw [acts_read hr]
  exact h

/-- Whoever answers an `EnableMemoryMap`, the device keeps its state (20 R73, R79). -/
theorem answerTxn_mapCommand_device {x : BusAnswer} {m : Bool} {d : RefDevice}
    (h : answerTxn (mapCommand v) u = (x, m, d)) : d = u.dev := by
  by_cases hc : u.collab = .reference
  · simp only [answerTxn, hc] at h
    split at h <;> cases h <;> rfl
  · rw [answerTxn_oracle hc] at h
    cases h
    rfl

theorem mapsOnce_issued {x : BusAnswer} {m : Bool} {d : RefDevice} (h : answerTxn (mapCommand s) s = (x, m, d)) :
    MapsOnce s (setBus m d (logTxn (mapCommand s) s)) :=
  ⟨congrArg RefDevice.flash (answerTxn_mapCommand_device h), le_rfl⟩

theorem doMapEnable_mapsOnce (s : State) :
    Ends (MapsOnce s) (fun _ => MapsOnce s) (MapsOnce s) (doMapEnable s) := by
  unfold doMapEnable
  split
  · exact mapsOnce_refl s
  · exact ends_bind (M := MapsOnce s) (bus_ends (fun _ _ _ => mapsOnce_issued) (fun _ _ _ => mapsOnce_issued)
      fun _ _ => mapsOnce_issued) fun _ h => h

/-- An operand check, then `EnableMemoryMappedMode()`, then reads: neither end of the command changes the device or
the count. -/
theorem runCommand_mapsOnce {row : AdmissionRow} {b : Bool} {f : State → Except Stop State}
    (h : runCommand row (fun s => requireRange b s >>= fun s => doMapEnable s >>= f) s = .next t)
    (hf : ∀ u, MapsOnce s u → Ends (MapsOnce s) (fun _ => MapsOnce s) (MapsOnce s) (f u)) : MapsOnce s t :=
  runCommand_ends h (fun _ _ => mapsOnce_refl s) fun _ =>
    ends_bind (M := (· = s)) (requireRange_ends (fun _ => rfl) fun _ => mapsOnce_refl s) fun u hu => by
      obtain rfl : u = s := hu
      exact ends_bind (doMapEnable_mapsOnce u) hf

theorem execChecksum_mapsOnce {start size seed : Word} (h : execChecksum start size seed s = .next t) : MapsOnce s t :=
  runCommand_mapsOnce h fun _ hu => ends_bind (doChecksum_reads _ _ _ .refl) fun _ hr =>
    (mapsOnce_of_reads hu hr.1 :)

theorem execVerify_mapsOnce {flash ram n : Word} {head tail : BitVec 4}
    (h : execVerify flash ram n head tail s = .next t) : MapsOnce s t :=
  runCommand_mapsOnce h fun _ hu => ends_bind (doChecksum_reads _ _ _ .refl) fun _ hr =>
    ends_bind (compareLoop_reads _ _ _ hr.1) fun r hc => by
      have hv := mapsOnce_of_reads hu hc
      rcases r with ⟨_ | a, v⟩
      · exact hv
      · exact hv

end

/-! ### `MISMATCH` -/

/-- `MISMATCH` is not set. -/
def Unmarked (s t : State) : Prop := s.mismatch = false → t.mismatch = false

/-- The pseudocode `m` of a whole command does not set `MISMATCH`; a `raise` clears it (60 R218). -/
def EndsUnmarked (s : State) (m : Except Stop State) : Prop := Ends (Unmarked s) (fun _ _ => True) (Unmarked s) m

section
variable {l : Access} {s t u : State}

theorem command_acts : Access.command ≠ .read := nofun

/-- No action writes `MISMATCH`. -/
theorem unmarked_of_acts (h : Acts l s u) : Unmarked s u := by
  have hkeep := acts_keep (·.mismatch) (fun _ _ ha => by cases ha <;> rfl) h
  exact fun hs => hkeep.trans hs

theorem endsUnmarked_bind {α : Type} {M : α → Prop} {m : Except Stop α} {f : α → Except Stop State}
    (hm : Runs l s M m) (hf : ∀ a, M a → EndsUnmarked s (f a)) : EndsUnmarked s (m >>= f) :=
  ends_bind (ends_mono hm (fun _ h => h) (fun _ _ _ => trivial) fun _ h => unmarked_of_acts h) hf

theorem endsUnmarked_requireRange {b : Bool} {f : State → Except Stop State} (hf : EndsUnmarked s (f s)) :
    EndsUnmarked s (requireRange b s >>= f) :=
  ends_bind (M := (· = s)) (requireRange_ends (fun _ => rfl) fun _ => trivial) fun _ h => h ▸ hf

/-- `return v` keeps `MISMATCH`. -/
theorem endsUnmarked_complete (v : DWord) (h : Acts l s u) : EndsUnmarked s (.ok (complete v u)) :=
  (unmarked_of_acts h :)

theorem endsUnmarked_returns_one {c : ChipState} {m : Except Stop State} (hm : Runs l s (ActsTo l s c) m) :
    EndsUnmarked s (m >>= fun u => .ok (complete 1 u)) :=
  endsUnmarked_bind hm fun _ h => endsUnmarked_complete 1 h.1

theorem runCommand_unmarked {row : AdmissionRow} {body : State → Except Stop State}
    (h : runCommand row body s = .next t) (hb : EndsUnmarked s (body s)) : Unmarked s t :=
  runCommand_ends h (fun _ _ _ => rfl) fun _ => ends_mono hb (fun _ h => h) (fun _ _ _ _ => rfl) fun _ h => h

theorem execInit_unmarked (h : execInit s = .next t) : Unmarked s t := by
  unfold execInit at h
  split at h
  case isFalse => cases h
  case isTrue =>
    have hb : EndsUnmarked (latchProfile s) (doInit s) :=
      endsUnmarked_bind (bus_runs (by simp) .busInit .refl) fun _ h1 =>
        endsUnmarked_bind (doReset_runs h1) fun _ h2 =>
          endsUnmarked_bind (doPollReady_runs (by simp) _ h2.1) fun _ h3 =>
            endsUnmarked_bind (doConfigure_runs h3) fun _ h4 =>
              endsUnmarked_bind (doMapEnable_runs (by simp) h4.1) fun _ h5 => endsUnmarked_complete 1 h5.1.1
    exact runCommand_unmarked h hb

/-- Only `VERIFY` sets `MISMATCH` (10 R31). -/
theorem exec_unmarked {i : Instr} (hi : ∀ f r n h e, i ≠ .verify f r n h e) (h : exec i s = .next t) : Unmarked s t := by
  unfold exec at h
  cases i with
  | init => exact execInit_unmarked h
  | write a n b =>
    exact runCommand_unmarked h <| endsUnmarked_requireRange <|
      endsUnmarked_bind (doMapDisable_runs command_acts .refl) fun _ hu => endsUnmarked_returns_one <|
        writeLoop_runs command_acts _ _ _ _ _ _ ⟨hu.1.tail (.cursor command_acts _ _), hu.2⟩
  | sectorErase a e =>
    exact runCommand_unmarked h <| endsUnmarked_requireRange <|
      endsUnmarked_bind (doMapDisable_runs command_acts .refl) fun _ hu => endsUnmarked_returns_one <|
        eraseLoop_runs command_acts _ _ _ _ ⟨hu.1.tail (.range command_acts _ _), hu.2⟩
  | massErase p =>
    exact runCommand_unmarked h <| endsUnmarked_bind (doMapDisable_runs command_acts .refl) fun _ hu =>
      endsUnmarked_returns_one (doEraseChip_runs command_acts hu.1)
  | checksum a n v =>
    exact runCommand_unmarked h <| endsUnmarked_requireRange <|
      endsUnmarked_bind (doMapEnable_runs command_acts .refl) fun _ hu =>
        endsUnmarked_bind (l := .command) (doChecksum_reads _ _ _ .refl) fun _ hr =>
          endsUnmarked_complete _ (hu.1.1.trans (acts_of_read hr.1))
  | verify f r n hd e => exact absurd rfl (hi f r n hd e)
  | reset => exact runCommand_unmarked h <| endsUnmarked_returns_one (doReset_runs .refl)
  | writeEnable =>
    exact runCommand_unmarked h <| endsUnmarked_bind (doWriteEnable_runs command_acts .refl) fun _ hu =>
      endsUnmarked_complete 1 (hu.tail (.chip command_acts _ _))
  | pollReady w =>
    exact runCommand_unmarked h <| endsUnmarked_bind (doPollReady_runs command_acts w .refl) fun _ hu =>
      endsUnmarked_complete 1 (hu.tail (.chip command_acts _ _))
  | configure => exact runCommand_unmarked h <| endsUnmarked_returns_one (doConfigure_runs .refl)
  | eraseSector a =>
    exact runCommand_unmarked h <| endsUnmarked_requireRange <|
      endsUnmarked_returns_one (doEraseSector_runs command_acts _ .refl)
  | eraseChip => exact runCommand_unmarked h <| endsUnmarked_returns_one (doEraseChip_runs command_acts .refl)
  | mmapEnable =>
    exact runCommand_unmarked h <| endsUnmarked_bind (doMapEnable_runs command_acts .refl) fun _ hu =>
      endsUnmarked_complete 1 hu.1.1
  | mmapDisable => exact runCommand_unmarked h <| endsUnmarked_returns_one (doMapDisable_runs command_acts .refl)

end

/-! ### The statement -/

/-- Settles O23: the profile, `InterfaceState` and RAM by the frames of every command, the array and the count by the
one mapping transaction. -/
theorem readingCommandsChangeNoMemory : Obligations.ReadingCommandsChangeNoMemory := by
  unfold Obligations.ReadingCommandsChangeNoMemory
  intro i s t h
  obtain ⟨-, -, -, -, -, -, -, -, -, -, -, -, hram, -⟩ := commandsNeverWriteArgumentsOrMemory i s t h
  obtain ⟨hprofile, -, hiface⟩ := ownersOfProfileAndInterface i s t h
  refine ⟨?_, ?_, fun hs hi => exec_unmarked hi h hs⟩
  · rintro a n v rfl
    obtain ⟨hflash, hcount⟩ := execChecksum_mapsOnce h
    exact ⟨hflash, hiface nofun nofun nofun, hprofile nofun, hram, hcount⟩
  · rintro f r n hd e rfl
    obtain ⟨hflash, hcount⟩ := execVerify_mapsOnce h
    exact ⟨hflash, hiface nofun nofun nofun, hprofile nofun, hram, hcount⟩

end Sys2Proof.Machine

/-! PROOF. The host operations `INIT`, `SECTOR_ERASE` and `MASS_ERASE` with an `Ok` oracle (43_host_operations.md R190 to
R193): the sectors that a range touches, the sector loop, and the phases of `INIT`. -/

namespace Sys2Proof.Machine

/-! ### The sectors of a range -/

section
variable {sector m n : Nat}

theorem touchedSectors_eq_sectorRow (sector start stop : Nat) :
    touchedSectors sector start stop = sectorRow sector (start / sector) (stop / sector + 1 - start / sector) := rfl

/-- Sectors in a row ascend. -/
theorem sectorRow_pairwise_lt (hs : 0 < sector) (m n : Nat) : (sectorRow sector m n).Pairwise (· < ·) :=
  List.pairwise_map.mpr <| List.pairwise_lt_range.imp fun hij =>
    Nat.mul_lt_mul_of_pos_right (Nat.add_lt_add_left hij m) hs

theorem mem_sectorRow {a : Nat} : a ∈ sectorRow sector m n ↔ ∃ k, a = k * sector ∧ m ≤ k ∧ k < m + n := by
  simp only [sectorRow, List.mem_map, List.mem_range]
  constructor
  · rintro ⟨i, hi, rfl⟩
    exact ⟨m + i, rfl, Nat.le_add_right m i, Nat.add_lt_add_left hi m⟩
  · rintro ⟨k, rfl, hm, hk⟩
    exact ⟨k - m, by omega, by rw [Nat.add_sub_cancel' hm]⟩

end

/-- Settles O46: for the sector number `k` both bounds of the rule are bounds on `k`. -/
theorem sectorSetOfRange : Obligations.SectorSetOfRange := by
  unfold Obligations.SectorSetOfRange
  intro sector start stop hs
  rw [touchedSectors_eq_sectorRow]
  refine ⟨sectorRow_pairwise_lt hs _ _, fun a => mem_sectorRow.trans (exists_congr fun k => and_congr_right ?_)⟩
  rintro rfl
  rw [← Nat.div_mul_self_eq_mod_sub_self, Nat.mul_le_mul_right_iff hs, ← Nat.le_div_iff_mul_le hs]
  omega

/-! ### `MASS_ERASE` -/

/-- Settles O44: the chip erase runs in command mode, with the outputs that it has in the state before. -/
theorem massEraseCompletes : Obligations.MassEraseCompletes := by
  unfold Obligations.MassEraseCompletes
  intro s _ hc h
  have hentered : AnswersOk (setChip .idle (afterEvents [.bus .disableMemoryMap] s)) := afterEvents_answersOk _ h
  rw [exec, execMassErase, runCommand_admitted (admission_anyMode hc), doMapDisable_ok h, ok_bind,
    doEraseChip_ok hentered, eraseChipOutputs_congr (sameSettings_setChip (sameSettings_afterEvents _ s)),
    afterEvents_setChip, setChip_setChip, ← afterEvents_append, List.singleton_append, ok_bind, finish]

/-! ### `SECTOR_ERASE` -/

section
variable {s u : State} {start stop fuel m n a : Nat}

theorem answersOk_sectorDone (h : AnswersOk u) : AnswersOk (sectorDone s start stop a u) :=
  have hrange : AnswersOk (setEraseRange ⟨start, stop, a⟩ u) := h
  answersOk_setChip (afterEvents_answersOk _ hrange)

/-- `return` drops the `EraseRange` (10 R28). -/
theorem complete_setEraseRange (v : DWord) (c : ChipState) (r : EraseRange) (s : State) :
    complete v (setChip c (setEraseRange r s)) = complete v (setChip c s) := rfl

/-- A sector that is done leaves its outputs only. -/
theorem complete_sectorDone (v : DWord) (es : List Event) :
    complete v (setChip .idle (afterEvents es (sectorDone s start stop a u))) =
      complete v (setChip .idle (afterEvents (eraseSectorOutputs s a ++ es) u)) := by
  rw [sectorDone, afterEvents_setChip, setChip_setChip, ← afterEvents_append, afterEvents_setEraseRange,
    complete_setEraseRange]

/-- The loop goes on after the sector it begins with. -/
theorem eraseLoop_sector_ok (hset : SameSettings s u) (h : AnswersOk u) (ha : a ≤ stop) :
    eraseLoop start stop (fuel + 1) a u =
      eraseLoop start stop fuel (a + s.profile.sectorSizeBytes) (sectorDone s start stop a u) := by
  have hrange : SameSettings s (setEraseRange ⟨start, stop, a⟩ u) := sameSettings_trans hset ⟨rfl, rfl, rfl⟩
  have h' : AnswersOk (setEraseRange ⟨start, stop, a⟩ u) := h
  rw [eraseLoop, if_pos ha, doEraseSector_ok h', eraseSectorOutputs_congr hrange, ← sectorDone, ok_bind,
    (sectorDone_settings hset).profile]

/-- Past the end of the range the loop is over. -/
theorem eraseLoop_past (ha : stop < a) : eraseLoop start stop fuel a u = .ok u := by
  cases fuel <;> exact if_neg (Nat.not_le.mpr ha)

/-- `SECTOR_ERASE` from its loop on, at sector number `m`, erases the `n` sectors that are left, in order, and returns
(43 R191). -/
theorem eraseLoop_returns (hset : SameSettings s u) (hidle : u.chipState = .idle) (h : AnswersOk u)
    (hs : 0 < s.profile.sectorSizeBytes) (hn : n = stop / s.profile.sectorSizeBytes + 1 - m)
    (hfuel : stop < m * s.profile.sectorSizeBytes + fuel) :
    (eraseLoop start stop fuel (m * s.profile.sectorSizeBytes) u >>= fun w => .ok (complete 1 w)) =
      .ok (complete 1 (setChip .idle
        (afterEvents ((sectorRow s.profile.sectorSizeBytes m n).flatMap (eraseSectorOutputs s)) u))) := by
  induction n generalizing m fuel u with
  | zero =>
    have hpast : stop < m * s.profile.sectorSizeBytes := (Nat.div_lt_iff_lt_mul hs).mp (by omega)
    have hnone : (sectorRow s.profile.sectorSizeBytes m 0).flatMap (eraseSectorOutputs s) = [] := rfl
    rw [eraseLoop_past hpast, ok_bind, hnone, afterEvents_nil, setChip_self hidle]
  | succ n ih =>
    have hle : m * s.profile.sectorSizeBytes ≤ stop := (Nat.le_div_iff_mul_le hs).mp (by omega)
    have hnext : m * s.profile.sectorSizeBytes + s.profile.sectorSizeBytes = (m + 1) * s.profile.sectorSizeBytes :=
      (Nat.succ_mul _ _).symm
    obtain ⟨fuel, rfl⟩ : ∃ f, fuel = f + 1 := Nat.exists_eq_succ_of_ne_zero (by omega)
    rw [eraseLoop_sector_ok hset h hle, hnext,
      ih (sectorDone_settings hset) rfl (answersOk_sectorDone h) (by omega) (by omega), complete_sectorDone,
      sectorRow_succ, List.flatMap_cons]

end

/-- `SECTOR_ERASE` admitted with its operands in range: `DisableMemoryMap`, the loop, `return` (43 R191). -/
theorem exec_sectorErase_eq_loop {s : State} {a e : Word}
    (hc : s.chipState = .configured ∨ s.chipState = .idle ∨ s.chipState = .memoryMapped) (h : AnswersOk s)
    (hrange : ¬ operandsOutOfRange s (.sectorErase a e)) :
    exec (.sectorErase a e) s = finish (
      eraseLoop (toOffset s a) (toOffset s e) (toOffset s e + 1 - alignedStart s (toOffset s a))
        (alignedStart s (toOffset s a))
        (setEraseRange ⟨toOffset s a, toOffset s e, alignedStart s (toOffset s a)⟩
          (setChip .idle (afterEvents [.bus .disableMemoryMap] s)))
      >>= fun w => .ok (complete 1 w)) := by
  rw [exec, execSectorErase, runCommand_admitted (admission_anyMode hc)]
  dsimp only
  rw [requireRange_ok ((sectorEraseInRange_iff s a e).mpr hrange), ok_bind, doMapDisable_ok h, ok_bind]
  rfl

/-- Settles O45: the loop starts at the sector of the first address, and its outputs follow the `DisableMemoryMap`. -/
theorem sectorEraseCompletes : Obligations.SectorEraseCompletes := by
  unfold Obligations.SectorEraseCompletes
  intro s a e hc h hs hrange
  have hstart : alignedStart s (toOffset s a) =
      toOffset s a / s.profile.sectorSizeBytes * s.profile.sectorSizeBytes :=
    Nat.div_mul_self_eq_mod_sub_self.symm
  have hentered : AnswersOk (setEraseRange ⟨toOffset s a, toOffset s e, alignedStart s (toOffset s a)⟩
      (setChip .idle (afterEvents [.bus .disableMemoryMap] s))) := afterEvents_answersOk [.bus .disableMemoryMap] h
  have hset : SameSettings s (setEraseRange ⟨toOffset s a, toOffset s e, alignedStart s (toOffset s a)⟩
      (setChip .idle (afterEvents [.bus .disableMemoryMap] s))) := ⟨rfl, rfl, rfl⟩
  have hfuel : toOffset s e < toOffset s a / s.profile.sectorSizeBytes * s.profile.sectorSizeBytes +
      (toOffset s e + 1 - alignedStart s (toOffset s a)) := by omega
  have hloop := eraseLoop_returns (start := toOffset s a) hset rfl hentered hs rfl hfuel
  rw [← hstart, ← touchedSectors_eq_sectorRow, ← sectorEraseOutputs, afterEvents_setEraseRange,
    complete_setEraseRange, afterEvents_setChip, setChip_setChip, ← afterEvents_append, List.singleton_append] at hloop
  rw [exec_sectorErase_eq_loop hc h hrange, hloop, finish]

/-! ### `INIT` -/

section
variable {s s' : State}

theorem resetOutputs_congr (h : s'.profile = s.profile) : resetOutputs s' = resetOutputs s := by
  simp only [resetOutputs, resetRounds, h]

theorem configuredIface_congr (h : SameSettings s s') : configuredIface s' = configuredIface s := by
  simp only [configuredIface, h.profile, h.iface]

theorem configureOutputs_congr (h : SameSettings s s') (sr cr : Byte) :
    configureOutputs s' sr cr = configureOutputs s sr cr := by
  simp only [configureOutputs, plainCommand, currentLines, setIface_iface, configuredIface_congr h,
    writeEnableOutputs_congr h, readyPoll_congr h, h.profile, h.platform, h.iface]

theorem mapCommand_congr (h : SameSettings s s') : mapCommand s' = mapCommand s := by
  simp only [mapCommand, currentLines, h.profile, h.iface]

/-- Every output of `Reset()` is a transaction. -/
theorem resetOutputs_are_transactions (s : State) : (resetOutputs s).filter isBusEvent = resetOutputs s := by
  refine List.filter_eq_self.mpr fun e he => ?_
  obtain ⟨r, -, he⟩ := List.mem_flatMap.mp he
  simp only [List.mem_cons, List.not_mem_nil, or_false] at he
  rcases he with rfl | rfl <;> rfl

end

/-- The state that a command begun in `p` has reached in `chipState` `c` and interface `f`, with the outputs `es`. -/
def reached (c : ChipState) (f : InterfaceState) (es : List Event) (p : State) : State :=
  setChip c (setIface f (afterEvents es p))

section
variable {p : State} {c : ChipState} {f : InterfaceState} {es : List Event}

theorem reached_settings : SameSettings (setIface f p) (reached c f es p) :=
  have h := sameSettings_afterEvents es p
  ⟨h.profile, h.platform, rfl⟩

theorem answersOk_reached (h : AnswersOk p) : AnswersOk (reached c f es p) :=
  answersOk_setChip (answersOk_setIface (afterEvents_answersOk es h))

theorem afterEvents_reached (fs : List Event) : afterEvents fs (reached c f es p) = reached c f (es ++ fs) p := by
  rw [reached, afterEvents_setChip, afterEvents_setIface, ← afterEvents_append, ← reached]

theorem reached_txCount : (reached c f es p).txCount = p.txCount + (es.filter isBusEvent).length := by
  rw [reached, setChip_txCount, setIface_txCount, afterEvents_frame]

theorem receivedByte_reached (n : Nat) : receivedByte (reached c f es p) n = receivedByte p n := by
  have hanswer : oracleAnswer (reached c f es p) n = oracleAnswer p n := by
    apply oracleAnswer_congr <;> rw [reached, afterEvents_frame] <;> rfl
  rw [receivedByte, hanswer, ← receivedByte]

theorem doReset_reached (h : AnswersOk p) :
    doReset (reached c f es p) = .ok (reached .reset resetInterface (es ++ resetOutputs p) p) := by
  have hout : resetOutputs (reached c f es p) = resetOutputs p := resetOutputs_congr reached_settings.profile
  rw [doReset_ok (answersOk_reached h), hout, afterEvents_reached]
  rfl

theorem doPollReady_reached (t : Word) (h : AnswersOk p) :
    doPollReady t (reached c f es p) = .ok (reached c f (es ++ [.bus (readyPoll (setIface f p) t)]) p) := by
  rw [doPollReady_ok (answersOk_reached h), readyPoll_congr reached_settings, afterEvents_reached]

theorem doConfigure_reached (h : AnswersOk p) {n : Nat} (hn : p.txCount + (es.filter isBusEvent).length = n) :
    doConfigure (reached c f es p) = .ok (reached .configured (configuredIface (setIface f p))
      (es ++ configureOutputs (setIface f p) (receivedByte p (n + 1)) (receivedByte p (n + 3))) p) := by
  rw [doConfigure_ok (answersOk_reached h), configureOutputs_congr reached_settings,
    configuredIface_congr reached_settings, receivedByte_reached, receivedByte_reached, reached_txCount, hn,
    afterEvents_reached]
  rfl

theorem doMapEnable_reached (hc : c ≠ .memoryMapped) (h : AnswersOk p) :
    doMapEnable (reached c f es p) = .ok (reached .memoryMapped f (es ++ [.bus (mapCommand (setIface f p))]) p) := by
  have hchip : (reached c f es p).chipState ≠ .memoryMapped := hc
  rw [doMapEnable_ok (.inr (answersOk_reached h)), mapEntered, mapEnableOutputs, if_neg hchip,
    mapCommand_congr reached_settings, afterEvents_reached]
  rfl

end

/-- The body of `INIT` on the state with its profile latched (43 R190). -/
theorem doInit_ok {s : State} (h : AnswersOk s) :
    let p := latchProfile s
    let n := p.txCount + (resetOutputs p).length
    doInit s = .ok (complete 1 (reached .memoryMapped (configuredIface (setIface resetInterface p))
      (initOutputs p (receivedByte p (n + 3)) (receivedByte p (n + 5))) p)) := by
  intro p n
  have hp : AnswersOk p := h
  have hbus : bus .busInit p = .ok (reached p.chipState p.iface [.bus .busInit] p) := bus_ok hp
  have hcount : p.txCount + (([Event.bus .busInit] ++ resetOutputs p ++
      [Event.bus (readyPoll (setIface resetInterface p) p.platform.defaultTimeoutMs)]).filter isBusEvent).length =
        n + 2 := by
    rw [List.filter_append, List.filter_append, resetOutputs_are_transactions, List.length_append, List.length_append]
    simp only [List.filter_cons, isBusEvent, List.filter_nil, if_true, List.length_singleton]
    omega
  have hplatform : (reached .reset resetInterface ([.bus .busInit] ++ resetOutputs p) p).platform = p.platform :=
    reached_settings.platform
  rw [doInit, hbus, ok_bind, doReset_reached hp, ok_bind, hplatform, doPollReady_reached _ hp, ok_bind,
    doConfigure_reached hp hcount, ok_bind, doMapEnable_reached (by decide) hp, ok_bind]
  rfl

/-- Settles O42: `INIT` is admitted in every resting state, and its outputs begin with the latched profile. -/
theorem initCompletes : Obligations.InitCompletes := by
  unfold Obligations.InitCompletes
  intro s hrest hlegal h p n
  have hadmitted : admission .initialise s.chipState = .admitted := by
    revert hrest
    cases s.chipState <;> simp [isResting, admission]
  rw [exec, execInit, if_pos hlegal, runCommand_admitted hadmitted, doInit_ok h, finish]
  rfl

end Sys2Proof.Machine

/-! PROOF. Which error kind a command raises, and when (30 R99; 60 R211, R213 to R218): an illegal code before the
admission table, a cell of the table before the operand check, the operand check before the first transaction, and
after it only the kinds of a failed transaction. -/

namespace Sys2Proof.Machine

/-! ### Illegal codes -/

/-- A code that no row of 30 R91 has is accepted, and raises `IllegalCommand` at once (30 R99, 60 R216). -/
theorem writeCommand_illegal {s : State} {v : Word} (hb : s.busy = false)
    (hv : v.toNat % 256 = 0 ∨ (0x07 ≤ v.toNat % 256 ∧ v.toNat % 256 ≤ 0x0F) ∨ 0x18 ≤ v.toNat % 256) :
    writeCommand v s = .next (raise .illegalCommand (accept (commandCode (latchedWords s v)) s)) := by
  have hcode : (commandCode (latchedWords s v)).toNat = v.toNat % 256 := toNat_commandCode _
  have hd := (decode_eq_illegal_iff (latchedWords s v)).mpr (by rwa [hcode])
  rw [writeCommand_idle v hb, hd]
  rfl

/-- Settles O13: neither acceptance nor `raise` of a precise kind writes any of the parts named. -/
theorem illegalCommandRaised : Obligations.IllegalCommandRaised := by
  unfold Obligations.IllegalCommandRaised
  intro s v rest hm hb hv
  have hstep := (step_eq_hostMove hm).trans (writeCommand_illegal (s := { s with moves := rest }) hb hv)
  exact ⟨_, hstep, rfl, resultWord_raise _ _, rfl, rfl, rfl, rfl, rfl, rfl, rfl, rfl, rfl, rfl, rfl⟩

/-! ### Commands accepted in `MemoryMapped` -/

/-- A command has ended in `MemoryMapped`, without a transaction and so without the kind of a failed one. -/
def EndsUntransacted (s t : State) : Prop :=
  t.txCount = s.txCount ∧ t.chipState = .memoryMapped ∧ t.err ≠ .busError ∧ t.err ≠ .timeout ∧ t.done = true

section
variable {s t u : State}

theorem doMapEnable_mapped (hc : s.chipState = .memoryMapped) : doMapEnable s = .ok s := by
  simp [doMapEnable, hc]

/-- Reads are no transactions, and leave `chipState`. -/
theorem endsUntransacted_of_reads (hc : s.chipState = .memoryMapped) (h : Acts .read s u) (v : DWord) :
    EndsUntransacted s (complete v u) := by
  rw [acts_read h]
  exact ⟨rfl, hc, nofun, nofun, rfl⟩

theorem endsUntransacted_invalidRange (hc : s.chipState = .memoryMapped) :
    EndsUntransacted s (raise .invalidRange s) :=
  ⟨rfl, hc, nofun, nofun, rfl⟩

/-- An operand check, then `EnableMemoryMappedMode()`, which does nothing, then reads and `return`. -/
theorem runCommand_untransacted {b : Bool} {f : State → Except Stop State} (hc : s.chipState = .memoryMapped)
    (h : runCommand .anyMode (fun s => requireRange b s >>= fun s => doMapEnable s >>= f) s = .next t)
    (hf : Ends (EndsUntransacted s) (fun k u => EndsUntransacted s (raise k u)) (EndsUntransacted s) (f s)) :
    EndsUntransacted s t := by
  refine runCommand_ends h (fun k hk => ?_) fun _ => ?_
  · rw [hc] at hk
    cases hk
  · refine ends_bind (M := (· = s)) (requireRange_ends (fun _ => rfl) fun _ => endsUntransacted_invalidRange hc) ?_
    rintro _ rfl
    rwa [doMapEnable_mapped hc, ok_bind]

theorem execChecksum_untransacted {start size seed : Word} (hc : s.chipState = .memoryMapped)
    (h : execChecksum start size seed s = .next t) : EndsUntransacted s t :=
  runCommand_untransacted hc h <| ends_bind (doChecksum_reads _ _ _ .refl) fun _ hr =>
    (endsUntransacted_of_reads hc hr.1 _ :)

theorem execVerify_untransacted {flash ram n : Word} {head tail : BitVec 4} (hc : s.chipState = .memoryMapped)
    (h : execVerify flash ram n head tail s = .next t) : EndsUntransacted s t :=
  runCommand_untransacted hc h <| ends_bind (doChecksum_reads _ _ _ .refl) fun _ hr =>
    ends_bind (compareLoop_reads _ _ _ hr.1) fun r hr' => by
      rcases r with ⟨_ | a, v⟩
      · exact endsUntransacted_of_reads hc hr' _
      · exact (endsUntransacted_of_reads hc hr' 0 :)

theorem exec_mmapEnable_mapped (hc : s.chipState = .memoryMapped) : exec .mmapEnable s = .next (complete 1 s) := by
  rw [exec, execMmapEnable, runCommand_admitted (admission_anyMode (.inr (.inr hc))), doMapEnable_mapped hc]
  rfl

end

/-- Settles O24: with the flash mapped already, what is left of the three commands only reads. -/
theorem noTransactionWhenMapped : Obligations.NoTransactionWhenMapped := by
  unfold Obligations.NoTransactionWhenMapped
  rintro s t hc (⟨a, n, v, h⟩ | ⟨f, r, n, hd, e, h⟩ | h)
  · exact execChecksum_untransacted hc h
  · exact execVerify_untransacted hc h
  · obtain rfl : complete 1 s = t := Host.Outcome.next.inj ((exec_mmapEnable_mapped hc).symm.trans h)
    exact endsUntransacted_of_reads hc .refl 1

/-! ### The operand check, and what follows it -/

/-- The outcome `o` of a command comes from its operand check and then from pseudocode that raises nothing but the kind
of a failed transaction, and clears `ERR` where it returns (60 R217). -/
def ChecksThenActs (i : Instr) (s : State) (o : Host.Outcome State Fault Refusal) : Prop :=
  ∃ (b : Bool) (f : State → Except Stop State), (b = true ↔ ¬ operandsOutOfRange s i) ∧
    Tries s (fun t => t.err = .noError) (f s) ∧ o = finish (requireRange b s >>= f)

section
variable {i : Instr} {s t : State}

theorem checksThenActs_of_check {row : AdmissionRow} {b : State → Bool} {f : State → State → Except Stop State}
    (ha : admission row s.chipState = .admitted) (hb : b s = true ↔ ¬ operandsOutOfRange s i)
    (hf : Tries s (fun t => t.err = .noError) (f s s)) :
    ChecksThenActs i s (runCommand row (fun u => requireRange (b u) u >>= f u) s) :=
  ⟨b s, f s, hb, hf, runCommand_admitted ha⟩

/-- A command of which 60 R213 names no operand. -/
theorem checksThenActs_of_unchecked {row : AdmissionRow} {f : State → Except Stop State}
    (ha : admission row s.chipState = .admitted) (hr : ¬ operandsOutOfRange s i)
    (hf : Tries s (fun t => t.err = .noError) (f s)) : ChecksThenActs i s (runCommand row f s) :=
  ⟨true, f, iff_of_true rfl hr, hf, runCommand_admitted ha⟩

/-- `return` clears `ERR` (00 R9). -/
theorem tries_returns {M : State → Prop} {m : Except Stop State} {g : State → State} {v : DWord} (hm : Tries s M m) :
    Tries s (fun t => t.err = .noError) (m >>= fun u => .ok (complete v (g u))) :=
  tries_bind hm fun u _ => complete_err (g u) v

theorem verifyEnd_err (ck : Word) (a : Option Nat) (u : State) : (verifyEnd ck a u).err = .noError := by
  cases a <;> rfl

theorem doInit_tries (s : State) : Tries s (fun t => t.err = .noError) (doInit s) :=
  tries_bind (bus_tries .busInit (okSoFar_of_same (okSoFar_refl s) rfl rfl)) fun _ h1 =>
    tries_bind (doReset_tries h1.1) fun _ h2 => tries_bind (bus_tries _ h2.1) fun _ h3 =>
      tries_bind (doConfigure_tries h3.1) fun _ h4 => tries_returns (doMapEnable_tries h4.1)

/-- What each command does once it is admitted. -/
theorem exec_checksThenActs (ha : admission (rowOf i) s.chipState = .admitted)
    (hinit : i = .init → s.profileIn.legal = true) : ChecksThenActs i s (exec i s) := by
  have h0 := okSoFar_refl s
  unfold exec
  cases i with
  | init =>
    rw [execInit, if_pos (hinit rfl)]
    exact checksThenActs_of_unchecked ha id (doInit_tries s)
  | write a n b =>
    refine checksThenActs_of_check ha (writeInRange_iff s a n b) ?_
    exact tries_bind (doMapDisable_tries h0) fun _ h1 =>
      tries_returns (writeLoop_tries _ _ _ _ _ _ ⟨okSoFar_of_same h1.1 rfl rfl, h1.2⟩)
  | sectorErase a e =>
    refine checksThenActs_of_check ha (sectorEraseInRange_iff s a e) ?_
    exact tries_bind (doMapDisable_tries h0) fun _ h1 =>
      tries_returns (eraseLoop_tries _ _ _ _ ⟨okSoFar_of_same h1.1 rfl rfl, h1.2⟩)
  | massErase p =>
    refine checksThenActs_of_unchecked ha id ?_
    exact tries_bind (doMapDisable_tries h0) fun _ h1 => tries_returns (doEraseChip_tries h1.1)
  | checksum a n v =>
    refine checksThenActs_of_check ha (checksumInRange_iff s a n v) ?_
    exact tries_bind (doMapEnable_tries h0) fun _ _ => tries_bind (doChecksum_reads _ _ _ .refl) fun r _ =>
      complete_err r.2 _
  | verify f r n hd e =>
    refine checksThenActs_of_check ha (verifyInRange_iff s f r n hd e) ?_
    exact tries_bind (doMapEnable_tries h0) fun _ _ => tries_bind (doChecksum_reads _ _ _ .refl) fun _ hr =>
      tries_bind (compareLoop_reads _ _ _ hr.1) fun c _ => verifyEnd_err _ c.1 c.2
  | reset => exact checksThenActs_of_unchecked ha id (tries_returns (doReset_tries h0))
  | writeEnable => exact checksThenActs_of_unchecked ha id (tries_returns (doWriteEnable_tries h0))
  | pollReady w => exact checksThenActs_of_unchecked ha id (tries_returns (bus_tries _ h0))
  | configure => exact checksThenActs_of_unchecked ha id (tries_returns (doConfigure_tries h0))
  | eraseSector a =>
    exact checksThenActs_of_check ha (eraseSectorInRange_iff s a) (tries_returns (doEraseSector_tries _ h0))
  | eraseChip => exact checksThenActs_of_unchecked ha id (tries_returns (doEraseChip_tries h0))
  | mmapEnable => exact checksThenActs_of_unchecked ha id (tries_returns (doMapEnable_tries h0))
  | mmapDisable => exact checksThenActs_of_unchecked ha id (tries_returns (doMapDisable_tries h0))

/-! ### Where an error comes from -/

/-- Every way in which a command sets `ERR`: a cell of the admission table, the operand check, or pseudocode that
returns, fails on the bus or waits. -/
inductive ErrOrigin (i : Instr) (s : State) : State → Prop
  | cell {k : ErrKind} (hk : admission (rowOf i) s.chipState = .rejected k) : ErrOrigin i s (raise k s)
  | operands (hr : operandsOutOfRange s i) : ErrOrigin i s (raise .invalidRange s)
  | acted {t : State} (he : t.err = .noError ∨ isBusKind t.err = true ∨ t.err = s.err) : ErrOrigin i s t

theorem waits_err (h : Waits s t) : t.err = s.err := by
  obtain ⟨-, -, herr⟩ := untilTheEnd_eq (h.elim (·.same) (·.same))
  exact herr

theorem errOrigin_of_tries {m : Except Stop State} (hm : Tries s (fun t => t.err = .noError) m)
    (h : finish m = .next t) : ErrOrigin i s t := by
  rcases finish_next h with rfl | ⟨k, u, rfl, rfl⟩ | rfl
  · exact .acted (.inl hm)
  · obtain ⟨f, rfl, -⟩ := hm
    exact .acted (.inr (.inl (errOfFail_isBusKind f)))
  · exact .acted (.inr (.inr (waits_err hm)))

/-- A command that reaches a next state has a cell in the table; only `INIT` looks at `profileIn` first. -/
theorem exec_next_cell (h : exec i s = .next t) :
    (admission (rowOf i) s.chipState = .admitted ∧ (i = .init → s.profileIn.legal = true)) ∨
      ∃ k, admission (rowOf i) s.chipState = .rejected k ∧ t = raise k s := by
  by_cases hi : i = .init
  · subst hi
    obtain ⟨hlegal, -⟩ := execInit_ended h
    have hrun : runCommand .initialise doInit s = .next t := (if_pos hlegal).symm.trans h
    exact (runCommand_next hrun).imp_left fun ⟨ha, _⟩ => ⟨ha, fun _ => hlegal⟩
  · obtain ⟨body, hbody⟩ := exec_eq_runCommand hi s
    exact (runCommand_next (hbody.symm.trans h)).imp_left fun ⟨ha, _⟩ => ⟨ha, fun e => absurd e hi⟩

theorem exec_errOrigin (h : exec i s = .next t) : ErrOrigin i s t := by
  rcases exec_next_cell h with ⟨ha, hinit⟩ | ⟨k, hk, rfl⟩
  · obtain ⟨b, f, hb, hf, hexec⟩ := exec_checksThenActs ha hinit
    rw [hexec] at h
    cases b with
    | true => exact errOrigin_of_tries hf h
    | false =>
      cases h
      exact .operands (by_contra fun hr => Bool.false_ne_true (hb.mpr hr))
  · exact .cell hk

/-- An error of a precise kind that the command did not find in `ERR` comes from the table or from the operands. -/
theorem err_of_precise {k : ErrKind} (h : exec i s = .next t) (hs : s.err ≠ k) (ht : t.err = k) (hk : k ≠ .noError)
    (hp : isBusKind k = false) :
    admission (rowOf i) s.chipState = .rejected k ∧ t = raise k s ∨
      k = .invalidRange ∧ operandsOutOfRange s i ∧ t = raise k s := by
  subst ht
  cases exec_errOrigin h with
  | cell hcell => exact .inl ⟨hcell, rfl⟩
  | operands hr => exact .inr ⟨rfl, hr, rfl⟩
  | acted he =>
    rcases he with he | he | he
    · exact absurd he hk
    · exact absurd (hp.symm.trans he) Bool.false_ne_true
    · exact absurd he.symm hs

end

/-! ### The cells of the admission table -/

section
variable {i : Instr} {c : ChipState}

/-- The cells of 40 R120 with `NotInitialized` are those that 60 R215 lists. -/
theorem admission_notInitialized_iff :
    admission (rowOf i) c = .rejected .notInitialized ↔
      c = .uninitialized ∧ i ≠ .init ∨ c = .reset ∧ admittedInReset i = false := by
  cases c <;> cases i <;> simp [admission, rowOf, admittedInReset]

/-- The cells of 40 R120 with `ModeConflict` are those that 60 R214 lists. -/
theorem admission_modeConflict_iff :
    admission (rowOf i) c = .rejected .modeConflict ↔ c = .memoryMapped ∧ conflictsWhenMapped i = true := by
  cases c <;> cases i <;> simp [admission, rowOf, conflictsWhenMapped]

end

/-! ### The statements -/

/-- Settles O25: the kind stands in the cells of the table that its rule lists, and comes from nowhere else. -/
theorem notInitializedRaised : Obligations.NotInitializedRaised := by
  unfold Obligations.NotInitializedRaised
  intro i s
  refine ⟨fun hc hi => exec_rejected (admission_notInitialized_iff.mpr (.inl ⟨hc, hi⟩)),
    fun hc hi => exec_rejected (admission_notInitialized_iff.mpr (.inr ⟨hc, hi⟩)), fun t h hs ht => ?_⟩
  rcases err_of_precise h hs ht nofun rfl with ⟨hcell, -⟩ | ⟨hk, -⟩
  · exact admission_notInitialized_iff.mp hcell
  · cases hk

/-- Settles O26: the kind stands in the cells of the table that its rule lists, and comes from nowhere else. -/
theorem modeConflictRaised : Obligations.ModeConflictRaised := by
  unfold Obligations.ModeConflictRaised
  intro i s
  refine ⟨fun hc hi => exec_rejected (admission_modeConflict_iff.mpr ⟨hc, hi⟩), fun t h hs ht => ?_⟩
  rcases err_of_precise h hs ht nofun rfl with ⟨hcell, -⟩ | ⟨hk, -⟩
  · exact admission_modeConflict_iff.mp hcell
  · cases hk

/-- Settles O27: the check fails on exactly these operands and stands before every action, and no admitted cell
rejects. -/
theorem invalidRangeRaised : Obligations.InvalidRangeRaised := by
  unfold Obligations.InvalidRangeRaised
  intro i s hadm
  have ha : admission (rowOf i) s.chipState = .admitted := of_decide_eq_true (admittedIn_eq_admission i _ ▸ hadm)
  refine ⟨fun hr => ?_, fun t h hs ht => ?_⟩
  · have hinit : i = .init → s.profileIn.legal = true := by
      rintro rfl
      exact hr.elim
    obtain ⟨b, f, hb, -, hexec⟩ := exec_checksThenActs ha hinit
    obtain rfl : b = false := Bool.eq_false_iff.mpr fun e => hb.mp e hr
    exact hexec
  · rcases err_of_precise h hs ht nofun rfl with ⟨hcell, -⟩ | ⟨-, hr, -⟩
    · cases ha.symm.trans hcell
    · exact hr

/-- Settles O28: a precise kind is raised in the accepted state, which has no transient value for `raise` to clear. -/
theorem preciseAborts : Obligations.PreciseAborts := by
  unfold Obligations.PreciseAborts
  intro i s t herr hrange hcursor hacc h hne hp
  have ht : t = raise t.err s := by
    rcases err_of_precise h (herr ▸ hne.symm) rfl hne hp with ⟨-, ht⟩ | ⟨-, -, ht⟩ <;> exact ht
  calc t = raise t.err s := ht
    _ = { s with resLo := 0, resHi := 0, err := t.err, mismatch := false, busy := false, done := true } := by
      simp only [raise, hp, Bool.false_eq_true, if_false, ← hrange, ← hcursor, ← hacc]

end Sys2Proof.Machine

/-! PROOF. A hardware reset (70 R240, R241): the block as in its reset state, everything outside it untouched. -/

namespace Sys2Proof.Machine

/-- No register of the port tells a hardware reset in mid-run from the reset state of the machine. -/
theorem readRegisterPort_hardwareReset (off : Nat) (s : State) :
    readRegisterPort off (hardwareReset s) = readRegisterPort off State.reset := rfl

/-- Settles O10: the move is `hardwareReset` on the state without it, and the port then reads as O9 says. -/
theorem hardwareResetMove : Obligations.HardwareResetMove := by
  unfold Obligations.HardwareResetMove
  intro s rest hmoves
  obtain ⟨hzero, -⟩ := resetState
  refine ⟨hardwareReset { s with moves := rest }, step_eq_hostMove hmoves, fun off hoff => ?_, ?_⟩
  · rw [readRegisterPort_hardwareReset]
    exact hzero off hoff
  · simp [resetInterface]

end Sys2Proof.Machine

/-! PROOF. How many transactions `RESET`, `CONFIGURE` and `INIT` issue with an `Ok` oracle (70 R256): the transactions
in the outputs of each, counted by the branches of the profile. -/

namespace Sys2Proof.Machine

/-! ### Counting the transactions in a list of outputs -/

/-- The number of transactions among the outputs. -/
def busCount (es : List Event) : Nat := (es.filter isBusEvent).length

@[simp] theorem busCount_nil : busCount [] = 0 := rfl

@[simp] theorem busCount_cons_bus (t : Txn) (es : List Event) : busCount (.bus t :: es) = busCount es + 1 := rfl

@[simp] theorem busCount_append (es fs : List Event) : busCount (es ++ fs) = busCount es + busCount fs := by
  rw [busCount, List.filter_append, List.length_append, ← busCount, ← busCount]

@[simp] theorem afterEvents_txCount (es : List Event) (s : State) :
    (afterEvents es s).txCount = s.txCount + busCount es := by
  rw [afterEvents_frame, busCount]

/-! ### The counts, by the profile -/

/-- The transactions of `Reset()`: two for each round (40 R121). -/
def resetCount (p : DeviceProfile) : Nat := if p.multiLineReset then 6 else 2

/-- The transactions of `Configure()`: nine in every profile, one or two to enter the configured mode, two to disable
wrapping (40 R124). -/
def configureCount (p : DeviceProfile) : Nat :=
  9 + (if p.configuredMode = .single then 0 else if p.addressWidthBits = .w24 then 1 else 2) +
    2 * (if p.hasWrap then 1 else 0)

section
variable (s : State)

theorem busCount_resetOutputs : busCount (resetOutputs s) = resetCount s.profile := by
  unfold resetOutputs resetRounds resetCount
  split <;> rfl

theorem busCount_writeEnableOutputs : busCount (writeEnableOutputs s) = 2 := rfl

theorem busCount_enterMultiLine : busCount (if s.profile.configuredMode = .single then []
      else (if s.profile.addressWidthBits = .w32 then [Event.bus (plainCommand s s.profile.opEnter4Byte .absent)]
        else []) ++ [Event.bus (plainCommand s s.profile.opEnterMode .absent)]) =
    if s.profile.configuredMode = .single then 0 else if s.profile.addressWidthBits = .w24 then 1 else 2 := by
  by_cases hm : s.profile.configuredMode = .single
  · rw [if_pos hm, if_pos hm, busCount_nil]
  · rw [if_neg hm, if_neg hm]
    cases s.profile.addressWidthBits <;> rfl

theorem busCount_configureOutputs (sr cr : Byte) :
    busCount (configureOutputs s sr cr) = configureCount s.profile := by
  have hwrap : ∀ t u : Txn, busCount (if s.profile.hasWrap then [.bus t, .bus u] else []) =
      2 * if s.profile.hasWrap then 1 else 0 := fun t u => by split <;> rfl
  simp only [configureOutputs, configureCount, busCount_append, busCount_enterMultiLine, hwrap,
    busCount_writeEnableOutputs, busCount_cons_bus, busCount_nil]

/-- The poll after the reset and the mapping command are one transaction each, and so is the bus initialisation. -/
theorem busCount_initOutputs (sr cr : Byte) :
    busCount (initOutputs s sr cr) = 1 + resetCount s.profile + 1 + configureCount s.profile + 1 := by
  simp only [initOutputs, busCount_append, busCount_resetOutputs, busCount_configureOutputs, setIface_profile,
    busCount_cons_bus, busCount_nil]

end

/-! ### The statement -/

/-- Settles O59: each command completes, and its transactions are those of its outputs. -/
theorem transactionCounts : Obligations.TransactionCounts := by
  unfold Obligations.TransactionCounts
  intro s t h
  refine ⟨fun hc hexec => ?_, fun hc hexec => ?_, fun hrest hexec => ?_⟩
  · cases (configureCompletes s hc h).symm.trans hexec
    simp only [complete_txCount, setChip_txCount, setIface_txCount, afterEvents_txCount, busCount_configureOutputs]
    rfl
  · cases (resetCompletes s hc h).symm.trans hexec
    simp only [complete_txCount, setChip_txCount, setIface_txCount, afterEvents_txCount, busCount_resetOutputs]
    rfl
  · have hlegal : s.profileIn.legal = true := (execInit_ended hexec).1
    cases (initCompletes s hrest hlegal h).symm.trans hexec
    simp only [complete_txCount, setChip_txCount, setIface_txCount, afterEvents_txCount, busCount_initOutputs]
    rfl

end Sys2Proof.Machine
